-- ==== Sys2Proof/Word.lean ====
section
/-! DEFINITION. The words of MHZ19B-CODEC: bytes, 16-bit values, and the byte-lane bundles its ports carry
(00_scope.md section 5, 10_state.md R13, 20_memory.md R21). -/

namespace Sys2Proof

/-- A byte: an unsigned integer 0 to 255 (00_scope.md section 5). -/
abbrev Byte := BitVec 8

/-- A 16-bit unsigned value: `cmd_arg`, `dec_ppm`, `res_ppm` (10_state.md R13, R14). -/
abbrev Half := BitVec 16

/-- A frame: nine byte lanes, lane 0 first on the wire (20_memory.md R21). Every index the rules use is a
constant (20_memory.md R20), so the lanes are named. -/
@[ext] structure Frame where
  b0 : Byte
  b1 : Byte
  b2 : Byte
  b3 : Byte
  b4 : Byte
  b5 : Byte
  b6 : Byte
  b7 : Byte
  b8 : Byte
  deriving DecidableEq, Repr, Inhabited

/-- The four payload lanes `enc_p[0..3]` (10_state.md R13). -/
@[ext] structure Payload where
  p0 : Byte
  p1 : Byte
  p2 : Byte
  p3 : Byte
  deriving DecidableEq, Repr, Inhabited

/-- The seven covered bytes `cks_b[1..7]`, in frame order (10_state.md R13). -/
@[ext] structure Covered where
  b1 : Byte
  b2 : Byte
  b3 : Byte
  b4 : Byte
  b5 : Byte
  b6 : Byte
  b7 : Byte
  deriving DecidableEq, Repr, Inhabited

end Sys2Proof
end

