-- ==== Sys2Proof/Config.lean ====
section
/-! DEFINITION. The constants of 00_scope.md R4 (none is configurable), and the free values that stand for an
output port while an input it depends on is not driven (10_state.md R18, 93_implementation_defined.md U11). -/

namespace Sys2Proof.Config

/-- `START`: byte 0 of every frame, both directions (R4). -/
@[simp] abbrev start : Byte := 0xFF
/-- `SENSOR_NUM`: byte 1 of every command frame (R4). -/
@[simp] abbrev sensorNum : Byte := 0x01
/-- `RESERVED_CMD_BYTE`: byte 7 of every command frame (R4; the spec's own decision D4). -/
@[simp] abbrev reservedCmdByte : Byte := 0x00
/-- `CMD_READ` (R4). -/
@[simp] abbrev cmdRead : Byte := 0x86
/-- `CMD_ZERO` (R4). -/
@[simp] abbrev cmdZero : Byte := 0x87
/-- `CMD_SPAN` (R4). -/
@[simp] abbrev cmdSpan : Byte := 0x88
/-- `CMD_ABC` (R4). -/
@[simp] abbrev cmdAbc : Byte := 0x79
/-- `CMD_RANGE` (R4). -/
@[simp] abbrev cmdRange : Byte := 0x99
/-- `ABC_ON` (R4). -/
@[simp] abbrev abcOn : Byte := 0xA0
/-- `ABC_OFF` (R4). -/
@[simp] abbrev abcOff : Byte := 0x00
/-- `FRAME_LEN`: bytes in a frame of either direction (R4). -/
@[simp] abbrev frameLen : Nat := 9
/-- `SPAN_MIN`: least legal span target in ppm (R4). -/
@[simp] abbrev spanMin : Nat := 1000
/-- `RANGE_SET`, its first member, in ppm (R4). -/
@[simp] abbrev rangeLow : Half := 2000
/-- `RANGE_SET`, its second member, in ppm (R4). -/
@[simp] abbrev rangeHigh : Half := 5000

/-! The free values, one for each output port: what it carries while an input it depends on is not driven.
The argument is `State.freeIdx`, which every step advances, so no two steps are made to agree (log entry 4). -/

opaque floatingCksOut : Nat → Byte
opaque floatingTxFrame : Nat → Frame
opaque floatingDecOk : Nat → Bool
opaque floatingDecErr : Nat → BitVec 3
opaque floatingDecCmd : Nat → Byte
opaque floatingDecDh : Nat → Byte
opaque floatingDecDl : Nat → Byte
opaque floatingDecPpm : Nat → Half
opaque floatingReqOk : Nat → Bool
opaque floatingReqErr : Nat → BitVec 3
opaque floatingCmdTxFrame : Nat → Frame
opaque floatingResOk : Nat → Bool
opaque floatingResErr : Nat → BitVec 3
opaque floatingResPpm : Nat → Half

end Sys2Proof.Config
end

