-- ==== Sys2Proof/Machine/Checksum.lean ====
section
/-! DEFINITION. The checksum unit CKS and the comparison VERIFY8 (40_checksum.md R45 to R52). -/

namespace Sys2Proof.Machine

/-- `S`: the natural-number sum of the seven covered bytes, 0 to 1785 (40_checksum.md R45). -/
def byteSum (b1 b2 b3 b4 b5 b6 b7 : Byte) : Nat :=
  b1.toNat + b2.toNat + b3.toNat + b4.toNat + b5.toNat + b6.toNat + b7.toNat

/-- `CKS`: `0xFF - (S mod 256) + 1`, truncated to 8 bits (40_checksum.md R45). -/
def cks (b1 b2 b3 b4 b5 b6 b7 : Byte) : Byte :=
  BitVec.ofNat 8 (0xFF - byteSum b1 b2 b3 b4 b5 b6 b7 % 256 + 1)

/-- CKS on its port `cks_b[1..7]` (10_state.md R13). -/
def cksOf (b : Covered) : Byte := cks b.b1 b.b2 b.b3 b.b4 b.b5 b.b6 b.b7

/-- The checksum of a frame covers its bytes 1 to 7, both ends included (40_checksum.md R47). -/
def frameCks (f : Frame) : Byte := cks f.b1 f.b2 f.b3 f.b4 f.b5 f.b6 f.b7

/-- `VERIFY8`: the last of eight bytes is the checksum of the first seven (40_checksum.md R49). -/
def verify8 (b1 b2 b3 b4 b5 b6 b7 b8 : Byte) : Bool := b8 == cks b1 b2 b3 b4 b5 b6 b7

/-- A frame has a valid checksum (40_checksum.md R48). -/
def validChecksum (f : Frame) : Bool := verify8 f.b1 f.b2 f.b3 f.b4 f.b5 f.b6 f.b7 f.b8

end Sys2Proof.Machine
end

