-- ==== Sys2Proof/Syntax.lean ====
section
/-! DEFINITION. The instructions of MHZ19B-CODEC: one constructor per row of opcode_table.json, its arguments the
row's field bits and its checksum byte (30_encoding.md R30, R31, R42). -/

namespace Sys2Proof

/-- The two frame formats: C, host to sensor (30_encoding.md R30), and R, sensor to host (R31). -/
inductive Format where
  | command
  | response
  deriving DecidableEq, Repr

/-- The rows of opcode_table.json, each under a name of its own (30_encoding.md R42). -/
inductive RowId where
  | readCo2
  | calZero
  | calSpan
  | setAbcOn
  | setAbcOff
  | setRange2000
  | setRange5000
  | cmdRaw
  | rspReadCo2
  | rspAny
  deriving DecidableEq, Repr

/-- An instruction: a row of opcode_table.json with its field bits. The last argument of each is the checksum byte,
which no row's mask covers (30_encoding.md R32), so that an instruction writes out every bit of its frame. -/
inductive Instr where
  /-- `READ_CO2`, command 0x86 (43_commands.md R78). -/
  | readCo2 (checksum : Byte)
  /-- `CAL_ZERO`, command 0x87 (R80). -/
  | calZero (checksum : Byte)
  /-- `CAL_SPAN`, command 0x88 (R82). -/
  | calSpan (upperValue : Half) (checksum : Byte)
  /-- `SET_ABC.on`, command 0x79 (R84). -/
  | setAbcOn (checksum : Byte)
  /-- `SET_ABC.off`, command 0x79 (R84). -/
  | setAbcOff (checksum : Byte)
  /-- `SET_RANGE.2000`, command 0x99 (R86). -/
  | setRange2000 (checksum : Byte)
  /-- `SET_RANGE.5000`, command 0x99 (R86). -/
  | setRange5000 (checksum : Byte)
  /-- `CMD_RAW`, any frame the raw ENC port can emit (41_encoder.md R53). -/
  | cmdRaw (cmd p0 p1 p2 p3 checksum : Byte)
  /-- `RSP_READ_CO2`, a response that echoes 0x86 (43_commands.md R79). -/
  | rspReadCo2 (dataHigh dataLow r4 r5 r6 r7 checksum : Byte)
  /-- `RSP_ANY`, any other response (42_decoder.md R61). -/
  | rspAny (cmd dataHigh dataLow r4 r5 r6 r7 checksum : Byte)
  deriving DecidableEq, Repr

/-- The direction of an instruction's frame. -/
def Instr.format : Instr → Format
  | .readCo2 _ => .command
  | .calZero _ => .command
  | .calSpan _ _ => .command
  | .setAbcOn _ => .command
  | .setAbcOff _ => .command
  | .setRange2000 _ => .command
  | .setRange5000 _ => .command
  | .cmdRaw _ _ _ _ _ _ => .command
  | .rspReadCo2 _ _ _ _ _ _ _ => .response
  | .rspAny _ _ _ _ _ _ _ _ => .response

/-- The table row an instruction is. -/
def Instr.row : Instr → RowId
  | .readCo2 _ => .readCo2
  | .calZero _ => .calZero
  | .calSpan _ _ => .calSpan
  | .setAbcOn _ => .setAbcOn
  | .setAbcOff _ => .setAbcOff
  | .setRange2000 _ => .setRange2000
  | .setRange5000 _ => .setRange5000
  | .cmdRaw _ _ _ _ _ _ => .cmdRaw
  | .rspReadCo2 _ _ _ _ _ _ _ => .rspReadCo2
  | .rspAny _ _ _ _ _ _ _ _ => .rspAny

end Sys2Proof
end

