-- ==== Sys2Proof/WellFormed.lean ====
section
/-! DEFINITION. When an instruction is well formed: it is the row that R42's order gives its frame, and its checksum
byte is right (30_encoding.md R32, R42; 40_checksum.md R48). -/

namespace Sys2Proof

/-- Bytes 2 to 6 of a command frame that one of the seven specific rows matches (30_encoding.md R42). -/
def specificCommand (cmd p0 p1 p2 p3 : Byte) : Bool :=
  let noPayload := p0 == 0 && p1 == 0 && p2 == 0 && p3 == 0
  let tailZero := p2 == 0 && p3 == 0
  (cmd == Config.cmdRead && noPayload) || (cmd == Config.cmdZero && noPayload) || (cmd == Config.cmdSpan && tailZero)
    || (cmd == Config.cmdAbc && (p0 == Config.abcOn || p0 == Config.abcOff) && p1 == 0 && tailZero)
    || (cmd == Config.cmdRange && ((p0 == 0x07 && p1 == 0xD0) || (p0 == 0x13 && p1 == 0x88)) && tailZero)

/-- The instruction is the row R42's order gives its frame: a generic row stands only for a frame no specific row
of its format matches. -/
def Instr.canonical : Instr → Bool
  | .readCo2 _ => true
  | .calZero _ => true
  | .calSpan _ _ => true
  | .setAbcOn _ => true
  | .setAbcOff _ => true
  | .setRange2000 _ => true
  | .setRange5000 _ => true
  | .cmdRaw cmd p0 p1 p2 p3 _ => !specificCommand cmd p0 p1 p2 p3
  | .rspReadCo2 _ _ _ _ _ _ _ => true
  | .rspAny cmd _ _ _ _ _ _ _ => cmd != Config.cmdRead

/-- The checksum byte is the checksum of bytes 1 to 7 (30_encoding.md R32, 40_checksum.md R48). -/
def Instr.checksumOk : Instr → Bool
  | .readCo2 k => k == Machine.cks Config.sensorNum Config.cmdRead 0 0 0 0 0
  | .calZero k => k == Machine.cks Config.sensorNum Config.cmdZero 0 0 0 0 0
  | .calSpan v k => k == Machine.cks Config.sensorNum Config.cmdSpan (v.extractLsb' 8 8) (v.extractLsb' 0 8) 0 0 0
  | .setAbcOn k => k == Machine.cks Config.sensorNum Config.cmdAbc Config.abcOn 0 0 0 0
  | .setAbcOff k => k == Machine.cks Config.sensorNum Config.cmdAbc Config.abcOff 0 0 0 0
  | .setRange2000 k => k == Machine.cks Config.sensorNum Config.cmdRange 0x07 0xD0 0 0 0
  | .setRange5000 k => k == Machine.cks Config.sensorNum Config.cmdRange 0x13 0x88 0 0 0
  | .cmdRaw cmd p0 p1 p2 p3 k => k == Machine.cks Config.sensorNum cmd p0 p1 p2 p3 Config.reservedCmdByte
  | .rspReadCo2 dh dl r4 r5 r6 r7 k => k == Machine.cks Config.cmdRead dh dl r4 r5 r6 r7
  | .rspAny cmd dh dl r4 r5 r6 r7 k => k == Machine.cks cmd dh dl r4 r5 r6 r7

/-- A well-formed instruction. -/
def Instr.wellFormed (i : Instr) : Bool := i.canonical && i.checksumOk

end Sys2Proof
end

