-- ==== Sys2Proof/Decode.lean ====
section
/-! DEFINITION. Classifying a frame by the opcode table (30_encoding.md R42), the encoder, and the table itself as
masks and matches over the 72-bit packing (R32). -/

namespace Sys2Proof

/-- Why nine bytes are no instruction of a format. -/
inductive DecodeError where
  /-- Fewer than nine bytes (30_encoding.md R41: every frame is exactly nine). -/
  | shortFrame
  /-- Byte 0 is not 0xFF (30_encoding.md R30, R31, R42). -/
  | badStart
  /-- Byte 1 of a command frame is not the sensor number 0x01 (30_encoding.md R30). -/
  | badSensorNumber
  /-- Byte 7 of a command frame is not 0x00 (30_encoding.md R37). -/
  | badReserved
  deriving DecidableEq, Repr

/-! ## Bytes -/

/-- The lanes in wire order (20_memory.md R21). -/
def Frame.toList (f : Frame) : List Byte := [f.b0, f.b1, f.b2, f.b3, f.b4, f.b5, f.b6, f.b7, f.b8]

/-- `hi = v[15:8]` (20_memory.md R22). -/
def hiByte (v : Half) : Byte := v.extractLsb' 8 8

/-- `lo = v[7:0]` (20_memory.md R22). -/
def loByte (v : Half) : Byte := v.extractLsb' 0 8

/-- `hi || lo` (20_memory.md R22). -/
def joinBytes (hi lo : Byte) : Half := hi ++ lo

/-! ## Decoding -/

/-- The rows of format C for a frame whose fixed bytes 0, 1 and 7 are right: the specific rows first, then CMD_RAW
(30_encoding.md R42). -/
def decodeCommand (cmd p0 p1 p2 p3 checksum : Byte) : Instr :=
  if cmd = Config.cmdRead ∧ p0 = 0 ∧ p1 = 0 ∧ p2 = 0 ∧ p3 = 0 then .readCo2 checksum
  else if cmd = Config.cmdZero ∧ p0 = 0 ∧ p1 = 0 ∧ p2 = 0 ∧ p3 = 0 then .calZero checksum
  else if cmd = Config.cmdSpan ∧ p2 = 0 ∧ p3 = 0 then .calSpan (joinBytes p0 p1) checksum
  else if cmd = Config.cmdAbc ∧ p0 = Config.abcOn ∧ p1 = 0 ∧ p2 = 0 ∧ p3 = 0 then .setAbcOn checksum
  else if cmd = Config.cmdAbc ∧ p0 = Config.abcOff ∧ p1 = 0 ∧ p2 = 0 ∧ p3 = 0 then .setAbcOff checksum
  else if cmd = Config.cmdRange ∧ p0 = 0x07 ∧ p1 = 0xD0 ∧ p2 = 0 ∧ p3 = 0 then .setRange2000 checksum
  else if cmd = Config.cmdRange ∧ p0 = 0x13 ∧ p1 = 0x88 ∧ p2 = 0 ∧ p3 = 0 then .setRange5000 checksum
  else .cmdRaw cmd p0 p1 p2 p3 checksum

/-- The rows of format R for a frame whose byte 0 is right: RSP_READ_CO2, then RSP_ANY (30_encoding.md R42). -/
def decodeResponse (cmd dataHigh dataLow r4 r5 r6 r7 checksum : Byte) : Instr :=
  if cmd = Config.cmdRead then .rspReadCo2 dataHigh dataLow r4 r5 r6 r7 checksum
  else .rspAny cmd dataHigh dataLow r4 r5 r6 r7 checksum

/-- The instruction at the head of a byte string, and the bytes after it. The checksum byte is carried and not judged:
classification gives a name, validity is DEC's matter (30_encoding.md R32, R42). -/
def decode (fmt : Format) (bytes : List Byte) : Except DecodeError (Instr × List Byte) :=
  match bytes with
  | b0 :: b1 :: b2 :: b3 :: b4 :: b5 :: b6 :: b7 :: b8 :: rest =>
    if b0 ≠ Config.start then .error .badStart
    else
      match fmt with
      | .command =>
        if b1 ≠ Config.sensorNum then .error .badSensorNumber
        else if b7 ≠ Config.reservedCmdByte then .error .badReserved
        else .ok (decodeCommand b2 b3 b4 b5 b6 b8, rest)
      | .response => .ok (decodeResponse b1 b2 b3 b4 b5 b6 b7 b8, rest)
  | _ => .error .shortFrame

/-! ## Encoding -/

/-- A format C frame with a given checksum byte (30_encoding.md R30). -/
def commandFrame (cmd p0 p1 p2 p3 checksum : Byte) : Frame :=
  ⟨Config.start, Config.sensorNum, cmd, p0, p1, p2, p3, Config.reservedCmdByte, checksum⟩

/-- A format R frame with a given checksum byte (30_encoding.md R31). -/
def responseFrame (cmd dataHigh dataLow r4 r5 r6 r7 checksum : Byte) : Frame :=
  ⟨Config.start, cmd, dataHigh, dataLow, r4, r5, r6, r7, checksum⟩

/-- The frame an instruction writes out (30_encoding.md R30, R31, R33 to R36). -/
def Instr.toFrame : Instr → Frame
  | .readCo2 k => commandFrame Config.cmdRead 0 0 0 0 k
  | .calZero k => commandFrame Config.cmdZero 0 0 0 0 k
  | .calSpan v k => commandFrame Config.cmdSpan (hiByte v) (loByte v) 0 0 k
  | .setAbcOn k => commandFrame Config.cmdAbc Config.abcOn 0 0 0 k
  | .setAbcOff k => commandFrame Config.cmdAbc Config.abcOff 0 0 0 k
  | .setRange2000 k => commandFrame Config.cmdRange (hiByte Config.rangeLow) (loByte Config.rangeLow) 0 0 k
  | .setRange5000 k => commandFrame Config.cmdRange (hiByte Config.rangeHigh) (loByte Config.rangeHigh) 0 0 k
  | .cmdRaw cmd p0 p1 p2 p3 k => commandFrame cmd p0 p1 p2 p3 k
  | .rspReadCo2 dh dl r4 r5 r6 r7 k => responseFrame Config.cmdRead dh dl r4 r5 r6 r7 k
  | .rspAny cmd dh dl r4 r5 r6 r7 k => responseFrame cmd dh dl r4 r5 r6 r7 k

/-- The nine bytes of an instruction, first on the wire first. -/
def encode (i : Instr) : List Byte := i.toFrame.toList

/-! ## The table as masks over the 72-bit packing -/

/-- `F72`: the frame as one number, byte 0 most significant (30_encoding.md R32). -/
def Frame.packed (f : Frame) : BitVec 72 :=
  f.b0 ++ (f.b1 ++ (f.b2 ++ (f.b3 ++ (f.b4 ++ (f.b5 ++ (f.b6 ++ (f.b7 ++ f.b8)))))))

/-- The frame whose packing is `w`: byte `i` at bits `71 - 8*i` down to `64 - 8*i` (30_encoding.md R32). -/
def Frame.ofPacked (w : BitVec 72) : Frame :=
  ⟨w.extractLsb' 64 8, w.extractLsb' 56 8, w.extractLsb' 48 8, w.extractLsb' 40 8, w.extractLsb' 32 8,
    w.extractLsb' 24 8, w.extractLsb' 16 8, w.extractLsb' 8 8, w.extractLsb' 0 8⟩

/-- One row of opcode_table.json. -/
structure TableRow where
  row : RowId
  format : Format
  bits : BitVec 72
  mask : BitVec 72
  deriving DecidableEq, Repr

/-! The rows of opcode_table.json: `bits` is a row's "match", `mask` its "mask". -/

def readCo2Row : TableRow := ⟨.readCo2, .command, 0xFF0186000000000000, 0xFFFFFFFFFFFFFFFF00⟩
def calZeroRow : TableRow := ⟨.calZero, .command, 0xFF0187000000000000, 0xFFFFFFFFFFFFFFFF00⟩
def calSpanRow : TableRow := ⟨.calSpan, .command, 0xFF0188000000000000, 0xFFFFFF0000FFFFFF00⟩
def setAbcOnRow : TableRow := ⟨.setAbcOn, .command, 0xFF0179A00000000000, 0xFFFFFFFFFFFFFFFF00⟩
def setAbcOffRow : TableRow := ⟨.setAbcOff, .command, 0xFF0179000000000000, 0xFFFFFFFFFFFFFFFF00⟩
def setRange2000Row : TableRow := ⟨.setRange2000, .command, 0xFF019907D000000000, 0xFFFFFFFFFFFFFFFF00⟩
def setRange5000Row : TableRow := ⟨.setRange5000, .command, 0xFF0199138800000000, 0xFFFFFFFFFFFFFFFF00⟩
def cmdRawRow : TableRow := ⟨.cmdRaw, .command, 0xFF0100000000000000, 0xFFFF0000000000FF00⟩
def rspReadCo2Row : TableRow := ⟨.rspReadCo2, .response, 0xFF8600000000000000, 0xFFFF00000000000000⟩
def rspAnyRow : TableRow := ⟨.rspAny, .response, 0xFF0000000000000000, 0xFF0000000000000000⟩

/-- opcode_table.json, in R42's order. -/
def opcodeTable : List TableRow :=
  [readCo2Row, calZeroRow, calSpanRow, setAbcOnRow, setAbcOffRow,
    setRange2000Row, setRange5000Row, cmdRawRow, rspReadCo2Row, rspAnyRow]

/-- A row matches a frame when `(F72 and mask) == match` (30_encoding.md R32). -/
def TableRow.hits (r : TableRow) (w : BitVec 72) : Bool := w &&& r.mask == r.bits

/-- The first row of the frame's format that matches (30_encoding.md R42). -/
def classify (fmt : Format) (w : BitVec 72) : Option RowId :=
  (opcodeTable.find? (fun r => r.format == fmt && r.hits w)).map TableRow.row

/-! ## Words numbered as the table numbers them -/

/-- The instruction of a table word: its bytes, byte 0 at bits 71:64 (30_encoding.md R32), read as a command frame
and, where no format C row matches, as a response frame (log entry 10). -/
def decodeTableWord (nbits w : Nat) : Option Instr :=
  if nbits ≤ 72 then
    let bytes := (Frame.ofPacked (BitVec.ofNat 72 w)).toList
    match decode .command bytes with
    | .ok (i, _) => some i
    | .error _ =>
      match decode .response bytes with
      | .ok (i, _) => some i
      | .error _ => none
  else none

end Sys2Proof
end

