-- ==== Sys2Proof/Machine/State.lean ====
section
/-! DEFINITION. The state of the model: the input ports as the host drives them, and what is the model's own (the
host's remaining presentations, the outcomes so far, the counter of the free values). The block itself stores nothing
(10_state.md R10); every output port is a function of the input ports (Machine/Ports.lean). -/

namespace Sys2Proof.Machine

/-- The error a unit reports, one constructor per code of 60_exceptions.md R97. -/
inductive Err where
  /-- Raised by DEC and the response half: fewer than nine bytes were available (R62). -/
  | badLength
  /-- Raised by DEC and the response half: byte 0 is not 0xFF (R64). -/
  | badStart
  /-- Raised by DEC and the response half: byte 8 is not the checksum of bytes 1 to 7 (R65). -/
  | checksumMismatch
  /-- Raised by DEC with `exp_en = 1` and by the response half for 0x86: the echoed code differs (R67). -/
  | unexpectedCommand
  /-- Raised by the request and the response half: an illegal operand or operation code (R98). -/
  | invalidArgument
  deriving DecidableEq, Repr

/-- A unit's outcome: `Ok(fields)` or `Err(code)` (10_state.md R15). -/
inductive UnitResult (α : Type) where
  | ok (fields : α)
  | err (code : Err)
  deriving DecidableEq, Repr

/-- What PARSE returns: "the three logical fields" (42_decoder.md R66). -/
structure Parsed where
  commandCode : Byte
  dataHigh : Byte
  dataLow : Byte
  deriving DecidableEq, Repr

/-- What DEC returns (42_decoder.md R68). -/
structure Decoded where
  cmd : Byte
  dh : Byte
  dl : Byte
  ppm : Half
  deriving DecidableEq, Repr

/-- What the response half returns: a concentration, or an acknowledgement (43_commands.md R77). -/
inductive Reply where
  | ppm (value : Half)
  | ack
  deriving DecidableEq, Repr

/-- DEC's output wires (10_state.md R13). -/
structure DecWires where
  ok : Bool
  err : BitVec 3
  cmd : Byte
  dh : Byte
  dl : Byte
  ppm : Half
  deriving DecidableEq, Repr

/-- The request half's output wires (10_state.md R14). -/
structure ReqWires where
  ok : Bool
  err : BitVec 3
  frame : Frame
  deriving DecidableEq, Repr

/-- The response half's output wires (10_state.md R14). -/
structure ResWires where
  ok : Bool
  err : BitVec 3
  ppm : Half
  deriving DecidableEq, Repr

/-- One outcome a run leaves behind (70_reset_and_hazards.md R121). `none`: an input the outcome depends on was not
driven, so it is unspecified and the host must not use it (10_state.md R18, R111). -/
inductive Sampled where
  /-- CKS was applied: `cks_out`. -/
  | checksum (out : Option Byte)
  /-- ENC was applied through its raw ports: `tx_frame`. -/
  | built (frame : Option Frame)
  /-- The request half was applied. -/
  | request (result : Option (UnitResult Frame))
  /-- Received bytes were presented: the outcome of PARSE, of DEC, and of the response half. -/
  | received (parsed : Option (UnitResult Parsed)) (decoded : Option (UnitResult Decoded)) (reply : Option (UnitResult Reply))
  deriving DecidableEq, Repr

/-- What the host does next: one presentation of inputs (70_reset_and_hazards.md R121, R122). -/
inductive HostAct where
  /-- Apply the operation that these nine bytes of format C stand for (30_encoding.md R42, R43). -/
  | command (frame : Frame)
  /-- Present received bytes: nine lanes, and how many of them were available (10_state.md R13). -/
  | receive (frame : Frame) (len : BitVec 4)
  /-- Drive `cmd_op`, `cmd_arg` and `cmd_flag` and apply the request half (10_state.md R14). -/
  | request (op : Byte) (arg : Half) (flag : Bool)
  /-- Drive `rsp_op`: say which command was sent (10_state.md R14, 70_reset_and_hazards.md R116). -/
  | respondTo (op : Byte)
  /-- Drive `exp_en` and `exp_cmd` (10_state.md R13). -/
  | expect (en : Bool) (cmd : Byte)
  /-- Drive the raw ENC ports (10_state.md R13). -/
  | build (cmd : Byte) (plen : BitVec 3) (payload : Payload)
  /-- Drive `cks_b[1..7]` (10_state.md R13). -/
  | checksum (bytes : Covered)
  deriving DecidableEq, Repr

/-- Why the machine stops with a fault. -/
inductive Fault where
  /-- Raised by `step` when the host's list is empty: a run "ends when the list ends" (70_reset_and_hazards.md R121).
  Safe: the hardware goes on doing nothing. -/
  | endOfRun
  deriving DecidableEq, Repr

/-- Why a step gives no meaning. -/
inductive Refusal where
  /-- Raised by `exec` for an instruction that has no meaning yet. Safe. No arm raises it. -/
  | notModelled (mnemonic : String)
  /-- Raised by `applyAct` when the host applies an operation by nine bytes that no format C row of the table matches
  (30_encoding.md R42): they stand for no operation of the block. Safe. -/
  | notACommandFrame (reason : DecodeError)
  deriving DecidableEq, Repr

/-- The input ports (`none`: the host does not drive the port, 10_state.md R18), and the model's own three fields. -/
structure State where
  /-- `cks_b[1..7]` (R13). -/
  cksB : Option Covered
  /-- `enc_cmd` (R13). -/
  encCmd : Option Byte
  /-- `enc_plen` (R13). -/
  encPlen : Option (BitVec 3)
  /-- `enc_p[0..3]` (R13). -/
  encP : Option Payload
  /-- `rx_frame[0..8]` of DEC and of the response half (R13, R14). -/
  rxFrame : Option Frame
  /-- `rx_len` of DEC and of the response half (R13, R14). -/
  rxLen : Option (BitVec 4)
  /-- `exp_en` (R13). -/
  expEn : Option Bool
  /-- `exp_cmd` (R13). -/
  expCmd : Option Byte
  /-- `cmd_op` (R14). -/
  cmdOp : Option Byte
  /-- `cmd_arg` (R14). -/
  cmdArg : Option Half
  /-- `cmd_flag` (R14). -/
  cmdFlag : Option Bool
  /-- `rsp_op` (R14). -/
  rspOp : Option Byte
  /-- The model's own: what the host still does, next one first (R121). -/
  host : List HostAct
  /-- The model's own: the outcomes the run has produced, oldest first (R121). -/
  outcomes : List Sampled
  /-- The model's own: the counter the free values of unspecified outputs are applied to. -/
  freeIdx : Nat
  deriving DecidableEq, Repr

/-- The state after reset: no input is driven (10_state.md R18, 70_reset_and_hazards.md R111), and the model's own
fields are empty (log entries 3, 5, 6). -/
def State.reset : State where
  cksB := none
  encCmd := none
  encPlen := none
  encP := none
  rxFrame := none
  rxLen := none
  expEn := none
  expCmd := none
  cmdOp := none
  cmdArg := none
  cmdFlag := none
  rspOp := none
  host := []
  outcomes := []
  freeIdx := 0

end Sys2Proof.Machine
end

