-- ==== Sys2Proof/Machine/Operands.lean ====
section
/-! DEFINITION. Operand forms and operand checks: payload padding, 16-bit payloads, the ABC byte, the legal span
targets and ranges, the concentration (30_encoding.md R34 to R36, 42_decoder.md R69, 43_commands.md R82, R86). -/

namespace Sys2Proof.Machine

/-- Payload byte `i` of a frame: lane `i` if `i < enc_plen`, else zero (41_encoder.md R53, R55). With `enc_plen` 5 to 7
every lane is used (R57). -/
def paddedByte (plen : BitVec 3) (i : Nat) (lane : Byte) : Byte := if i < plen.toNat then lane else 0

/-- All four payload bytes of a frame (41_encoder.md R55). -/
def padded (plen : BitVec 3) (p : Payload) : Payload :=
  ⟨paddedByte plen 0 p.p0, paddedByte plen 1 p.p1, paddedByte plen 2 p.p2, paddedByte plen 3 p.p3⟩

/-- The payload "none" (30_encoding.md R36). -/
def noPayload : Payload := ⟨0, 0, 0, 0⟩

/-- A 16-bit operand in the first two payload lanes, high byte first (30_encoding.md R34). -/
def halfPayload (v : Half) : Payload := ⟨hiByte v, loByte v, 0, 0⟩

/-- The payload of SET_ABC: 0xA0 to enable, 0x00 to disable (30_encoding.md R35). -/
def abcPayload (flag : Bool) : Payload := ⟨if flag then Config.abcOn else Config.abcOff, 0, 0, 0⟩

/-- A legal span target: at least 1000 ppm, unsigned, no upper limit (43_commands.md R82). -/
def spanLegal (arg : Half) : Bool := Config.spanMin ≤ arg.toNat

/-- A legal detection range: 2000 or 5000 ppm (43_commands.md R86). -/
def rangeLegal (arg : Half) : Bool := arg == Config.rangeLow || arg == Config.rangeHigh

/-- The five command codes (30_encoding.md R33). -/
def isCommandCode (op : Byte) : Bool :=
  op == Config.cmdRead || op == Config.cmdZero || op == Config.cmdSpan || op == Config.cmdAbc || op == Config.cmdRange

/-- The commands that read `cmd_arg`; the others ignore it (10_state.md R19). -/
def readsArg (op : Byte) : Bool := op == Config.cmdSpan || op == Config.cmdRange

/-- The command that reads `cmd_flag`; the others ignore it (10_state.md R19). -/
def readsFlag (op : Byte) : Bool := op == Config.cmdAbc

/-- `rx_len < 9`: too few bytes were available (42_decoder.md R62). Port values 10 to 15 act as 9 (R63). -/
def tooShort (len : BitVec 4) : Bool := len.toNat < Config.frameLen

/-- `PPM`: `dataHigh || dataLow` (42_decoder.md R69). -/
def ppmOf (dataHigh dataLow : Byte) : Half := joinBytes dataHigh dataLow

end Sys2Proof.Machine
end

