-- ==== Sys2Proof/Machine/Flags.lean ====
section
/-! DEFINITION. The status outputs: `(*_ok, *_err)` beside each result, and the data outputs, all zero on an error
(10_state.md R15, 60_exceptions.md R97). There is no flag register. -/

namespace Sys2Proof.Machine

/-- The 3-bit error code (60_exceptions.md R97, the spec's own numbering D8). -/
def Err.code : Err → BitVec 3
  | .badLength => 1
  | .badStart => 2
  | .checksumMismatch => 3
  | .unexpectedCommand => 4
  | .invalidArgument => 5

/-- The rank of an error in R102's order, the first reported first. -/
def Err.rank : Err → Nat
  | .invalidArgument => 0
  | .badLength => 1
  | .badStart => 2
  | .checksumMismatch => 3
  | .unexpectedCommand => 4

/-- `*_ok`: 1 exactly when the outcome is `Ok` (10_state.md R15). -/
def okBit {α : Type} : UnitResult α → Bool
  | .ok _ => true
  | .err _ => false

/-- `*_err`: 0 on `Ok`, else the code (10_state.md R15). -/
def errBits {α : Type} : UnitResult α → BitVec 3
  | .ok _ => 0
  | .err e => e.code

/-- Nine 0x00 bytes, what `cmd_tx_frame` carries on an error (10_state.md R14, R15). -/
def zeroFrame : Frame := ⟨0, 0, 0, 0, 0, 0, 0, 0, 0⟩

/-- DEC's wires from its outcome (42_decoder.md R68, 10_state.md R15). -/
def decWiresOf (r : UnitResult Decoded) : DecWires :=
  match r with
  | .ok d => ⟨okBit r, errBits r, d.cmd, d.dh, d.dl, d.ppm⟩
  | .err _ => ⟨okBit r, errBits r, 0, 0, 0, 0⟩

/-- The request half's wires from its outcome (43_commands.md R76, 10_state.md R15). -/
def reqWiresOf (r : UnitResult Frame) : ReqWires :=
  match r with
  | .ok f => ⟨okBit r, errBits r, f⟩
  | .err _ => ⟨okBit r, errBits r, zeroFrame⟩

/-- The response half's wires from its outcome: `res_ppm` is 0 but for a concentration (43_commands.md R77). -/
def resWiresOf (r : UnitResult Reply) : ResWires :=
  match r with
  | .ok (.ppm v) => ⟨okBit r, errBits r, v⟩
  | .ok .ack => ⟨okBit r, errBits r, 0⟩
  | .err _ => ⟨okBit r, errBits r, 0⟩

end Sys2Proof.Machine
end

