-- ==== Sys2Proof/Machine/Ops.lean ====
section
/-! DEFINITION. The units as functions of their inputs, written from the spec's pseudocode: BUILD, PARSE, ECHO, DEC,
REQUEST, RESPONSE; and `raise`, which is all that taking an exception is on this block (60_exceptions.md R104). -/

namespace Sys2Proof.Machine

/-- `raise X`: the outcome is `Err(X)` and nothing else happens; it is not a trap, nothing is saved and no control goes
anywhere (60_exceptions.md R103, R104). There is no return from it (R107). -/
def raise {α : Type} (e : Err) : UnitResult α := .err e

/-- `BUILD` (41_encoder.md R53). -/
def build (cmd : Byte) (plen : BitVec 3) (p : Payload) : Frame :=
  let q := padded plen p
  commandFrame cmd q.p0 q.p1 q.p2 q.p3
    (cks Config.sensorNum cmd q.p0 q.p1 q.p2 q.p3 Config.reservedCmdByte)

/-- `PARSE` (42_decoder.md R61): length, start byte, checksum, in that order. -/
def parse (f : Frame) (len : BitVec 4) : UnitResult Parsed :=
  if tooShort len then raise .badLength
  else if f.b0 ≠ Config.start then raise .badStart
  else if validChecksum f = false then raise .checksumMismatch
  else .ok ⟨f.b1, f.b2, f.b3⟩

/-- `ECHO` (42_decoder.md R67), applied to a successful PARSE. -/
def echo (p : Parsed) (en : Bool) (expCmd : Byte) : UnitResult Parsed :=
  if en = true ∧ p.commandCode ≠ expCmd then raise .unexpectedCommand else .ok p

/-- The fields DEC returns on success, the concentration among them (42_decoder.md R68, R69). -/
def decodedOf (p : Parsed) : Decoded := ⟨p.commandCode, p.dataHigh, p.dataLow, ppmOf p.dataHigh p.dataLow⟩

/-- DEC after PARSE: ECHO, then the fields (42_decoder.md R68). -/
def finishDec (p : Parsed) (en : Bool) (expCmd : Byte) : UnitResult Decoded :=
  match echo p en expCmd with
  | .ok q => .ok (decodedOf q)
  | .err e => raise e

/-- `DEC` (42_decoder.md R68). -/
def dec (f : Frame) (len : BitVec 4) (en : Bool) (expCmd : Byte) : UnitResult Decoded :=
  match parse f len with
  | .ok p => finishDec p en expCmd
  | .err e => raise e

/-- The request half of CMD (43_commands.md R76). -/
def request (op : Byte) (arg : Half) (flag : Bool) : UnitResult Frame :=
  if op = Config.cmdRead then .ok (build Config.cmdRead 0 noPayload)
  else if op = Config.cmdZero then .ok (build Config.cmdZero 0 noPayload)
  else if op = Config.cmdSpan then
    if spanLegal arg then .ok (build Config.cmdSpan 2 (halfPayload arg)) else raise .invalidArgument
  else if op = Config.cmdAbc then .ok (build Config.cmdAbc 1 (abcPayload flag))
  else if op = Config.cmdRange then
    if rangeLegal arg then .ok (build Config.cmdRange 2 (halfPayload arg)) else raise .invalidArgument
  else raise .invalidArgument

/-- What the response half hands on of a decoded reply: the concentration for READ_CO2 (43_commands.md R79). -/
def ppmReply (r : UnitResult Decoded) : UnitResult Reply :=
  match r with
  | .ok d => .ok (.ppm d.ppm)
  | .err e => raise e

/-- What the response half hands on of a decoded reply: the acknowledgement for the other four (43_commands.md R81). -/
def ackReply (r : UnitResult Decoded) : UnitResult Reply :=
  match r with
  | .ok _ => .ok .ack
  | .err e => raise e

/-- The response half of CMD (43_commands.md R77): echo check on for 0x86, off for the other four. -/
def response (op : Byte) (f : Frame) (len : BitVec 4) : UnitResult Reply :=
  if op = Config.cmdRead then ppmReply (dec f len true Config.cmdRead)
  else if isCommandCode op then ackReply (dec f len false 0)
  else raise .invalidArgument

end Sys2Proof.Machine
end

