-- ==== Sys2Proof/Machine/Ports.lean ====
section
/-! DEFINITION. The output ports as functions of the input ports, at every instant (10_state.md R10). An input is
ignored exactly where a rule says so and then need not be driven (R19, 43_commands.md R88); an outcome one of whose other
inputs is not driven is `none`, and its wires are then free values (R18, R111, log entries 2 and 4). -/

namespace Sys2Proof.Machine

/-- CKS on its port (10_state.md R13). -/
def State.cksOutcome (s : State) : Option Byte := s.cksB.map cksOf

/-- ENC on its ports: the payload lanes are not read when `enc_plen` is 0 (10_state.md R13, R19). -/
def State.encOutcome (s : State) : Option Frame :=
  match s.encCmd, s.encPlen with
  | some cmd, some plen => if plen = 0 then some (build cmd 0 noPayload) else s.encP.map (build cmd plen)
  | _, _ => none

/-- PARSE on DEC's ports: no lane is read when `rx_len < 9` (42_decoder.md R62). -/
def State.parseOutcome (s : State) : Option (UnitResult Parsed) :=
  match s.rxLen with
  | none => none
  | some len => if tooShort len then some (raise .badLength) else s.rxFrame.map (parse · len)

/-- The echo check's two inputs, where they are driven: `exp_cmd` is ignored when `exp_en == 0` (10_state.md R19);
`exp_en` is never ignored. -/
def State.echoInputs (s : State) : Option (Bool × Byte) :=
  match s.expEn with
  | none => none
  | some false => some (false, 0)
  | some true => s.expCmd.map (true, ·)

/-- DEC on its ports (42_decoder.md R68). The outcome is unspecified while `exp_en` is not driven, a PARSE error
among them (70_reset_and_hazards.md R111). -/
def State.decOutcome (s : State) : Option (UnitResult Decoded) :=
  match s.parseOutcome, s.echoInputs with
  | some (.err e), some _ => some (raise e)
  | some (.ok p), some (en, expCmd) => some (finishDec p en expCmd)
  | none, _ => none
  | _, none => none

/-- The request half on its ports: `cmd_arg` and `cmd_flag` are read only by the commands that use them
(10_state.md R14, R19). -/
def State.reqOutcome (s : State) : Option (UnitResult Frame) :=
  match s.cmdOp with
  | none => none
  | some op =>
    if readsArg op then s.cmdArg.map (request op · false)
    else if readsFlag op then s.cmdFlag.map (request op 0)
    else some (request op 0 false)

/-- The response half on its ports: an operation code outside the five is refused without reading `rx_frame` or
`rx_len` (43_commands.md R88). -/
def State.resOutcome (s : State) : Option (UnitResult Reply) :=
  match s.rspOp with
  | none => none
  | some op =>
    if isCommandCode op then
      match s.rxLen with
      | none => none
      | some len => if tooShort len then some (raise .badLength) else s.rxFrame.map (response op · len)
    else some (raise .invalidArgument)

/-! ## The wires -/

/-- `cks_out` (10_state.md R13). -/
def State.cksOut (s : State) : Byte := s.cksOutcome.getD (Config.floatingCksOut s.freeIdx)

/-- `tx_frame[0..8]` (10_state.md R13). -/
def State.txFrame (s : State) : Frame := s.encOutcome.getD (Config.floatingTxFrame s.freeIdx)

/-- `dec_*` (10_state.md R13, R15). -/
def State.decWires (s : State) : DecWires :=
  match s.decOutcome with
  | some r => decWiresOf r
  | none =>
    ⟨Config.floatingDecOk s.freeIdx, Config.floatingDecErr s.freeIdx, Config.floatingDecCmd s.freeIdx,
      Config.floatingDecDh s.freeIdx, Config.floatingDecDl s.freeIdx, Config.floatingDecPpm s.freeIdx⟩

/-- `req_*` and `cmd_tx_frame[0..8]` (10_state.md R14, R15). -/
def State.reqWires (s : State) : ReqWires :=
  match s.reqOutcome with
  | some r => reqWiresOf r
  | none => ⟨Config.floatingReqOk s.freeIdx, Config.floatingReqErr s.freeIdx, Config.floatingCmdTxFrame s.freeIdx⟩

/-- `res_*` (10_state.md R14, R15). -/
def State.resWires (s : State) : ResWires :=
  match s.resOutcome with
  | some r => resWiresOf r
  | none => ⟨Config.floatingResOk s.freeIdx, Config.floatingResErr s.freeIdx, Config.floatingResPpm s.freeIdx⟩

/-! ## Driving inputs and sampling outputs -/

/-- The host drives `cmd_op`. -/
def State.driveOp (op : Byte) (s : State) : State := { s with cmdOp := some op }

/-- The host drives `cmd_arg`. -/
def State.driveArg (arg : Half) (s : State) : State := { s with cmdArg := some arg }

/-- The host drives `cmd_flag`. -/
def State.driveFlag (flag : Bool) (s : State) : State := { s with cmdFlag := some flag }

/-- The host drives the raw ENC ports. -/
def State.driveEnc (cmd : Byte) (plen : BitVec 3) (p : Payload) (s : State) : State :=
  { s with encCmd := some cmd, encPlen := some plen, encP := some p }

/-- The host drives `rx_frame` and `rx_len`. -/
def State.driveRx (f : Frame) (len : BitVec 4) (s : State) : State := { s with rxFrame := some f, rxLen := some len }

/-- The host drives `rsp_op`. -/
def State.driveRspOp (op : Byte) (s : State) : State := { s with rspOp := some op }

/-- The host drives `exp_en` and `exp_cmd`. -/
def State.driveExp (en : Bool) (cmd : Byte) (s : State) : State := { s with expEn := some en, expCmd := some cmd }

/-- The host drives `cks_b[1..7]`. -/
def State.driveCks (b : Covered) (s : State) : State := { s with cksB := some b }

/-- An outcome joins the list a run leaves behind (70_reset_and_hazards.md R121). -/
def State.record (x : Sampled) (s : State) : State := { s with outcomes := s.outcomes ++ [x] }

/-- The host samples the request half. -/
def State.sampleRequest (s : State) : State := s.record (.request s.reqOutcome)

/-- The host samples ENC. -/
def State.sampleBuilt (s : State) : State := s.record (.built s.encOutcome)

/-- The host samples DEC and the response half. -/
def State.sampleReceived (s : State) : State := s.record (.received s.parseOutcome s.decOutcome s.resOutcome)

/-- The host samples CKS. -/
def State.sampleChecksum (s : State) : State := s.record (.checksum s.cksOutcome)

/-- Received bytes are presented to DEC and to the response half, and both are sampled. Which command they answer is
what the host drives on `rsp_op`, `exp_en` and `exp_cmd`, not what the bytes say (30_encoding.md R42, R116). -/
def State.presentRx (f : Frame) (len : BitVec 4) (s : State) : State := (s.driveRx f len).sampleReceived

/-- One step's housekeeping: the act is taken off the host's list and the free values move on. -/
def State.advance (rest : List HostAct) (s : State) : State := { s with host := rest, freeIdx := s.freeIdx + 1 }

end Sys2Proof.Machine
end

