-- ==== Sys2Proof/Machine/Commands.lean ====
section
/-! DEFINITION. The meanings of the eight format C rows: the host applies the request half (or, for CMD_RAW, the raw
ENC) to the operand the row carries. The checksum byte the instruction carries is not an input of either unit: the unit
computes it (43_commands.md R76, 41_encoder.md R53; log entry 7). -/

namespace Sys2Proof.Machine

/-- `READ_CO2` request (43_commands.md R78). -/
def execReadCo2 (_checksum : Byte) (s : State) : Host.Outcome State Fault Refusal :=
  .next (s.driveOp Config.cmdRead).sampleRequest

/-- `CAL_ZERO` request (43_commands.md R80). -/
def execCalZero (_checksum : Byte) (s : State) : Host.Outcome State Fault Refusal :=
  .next (s.driveOp Config.cmdZero).sampleRequest

/-- `CAL_SPAN` request (43_commands.md R82): InvalidArgument below 1000 ppm. -/
def execCalSpan (upperValue : Half) (_checksum : Byte) (s : State) : Host.Outcome State Fault Refusal :=
  .next ((s.driveOp Config.cmdSpan).driveArg upperValue).sampleRequest

/-- `SET_ABC on` request (43_commands.md R84). -/
def execSetAbcOn (_checksum : Byte) (s : State) : Host.Outcome State Fault Refusal :=
  .next ((s.driveOp Config.cmdAbc).driveFlag true).sampleRequest

/-- `SET_ABC off` request (43_commands.md R84). -/
def execSetAbcOff (_checksum : Byte) (s : State) : Host.Outcome State Fault Refusal :=
  .next ((s.driveOp Config.cmdAbc).driveFlag false).sampleRequest

/-- `SET_RANGE 2000` request (43_commands.md R86). -/
def execSetRange2000 (_checksum : Byte) (s : State) : Host.Outcome State Fault Refusal :=
  .next ((s.driveOp Config.cmdRange).driveArg Config.rangeLow).sampleRequest

/-- `SET_RANGE 5000` request (43_commands.md R86). -/
def execSetRange5000 (_checksum : Byte) (s : State) : Host.Outcome State Fault Refusal :=
  .next ((s.driveOp Config.cmdRange).driveArg Config.rangeHigh).sampleRequest

/-- `BUILD` through the raw ENC ports (41_encoder.md R53). A frame does not tell a padded zero from a supplied one
(R55), so all four lanes are supplied: `enc_plen` is 4 (log entry 8). -/
def execCmdRaw (cmd p0 p1 p2 p3 _checksum : Byte) (s : State) : Host.Outcome State Fault Refusal :=
  .next (s.driveEnc cmd 4 ⟨p0, p1, p2, p3⟩).sampleBuilt

end Sys2Proof.Machine
end

