-- ==== Sys2Proof/Machine/Responses.lean ====
section
/-! DEFINITION. The meanings of the two format R rows: the nine bytes are presented to DEC and to the response half.
The row gives only a name; whether the response is valid and expected is decided by DEC and by what the host drives on
`rsp_op`, `exp_en` and `exp_cmd` (30_encoding.md R42; log entry 9). -/

namespace Sys2Proof.Machine

/-- A response that echoes 0x86 (43_commands.md R79). -/
def execRspReadCo2 (dataHigh dataLow r4 r5 r6 r7 checksum : Byte) (s : State) : Host.Outcome State Fault Refusal :=
  .next (s.presentRx (responseFrame Config.cmdRead dataHigh dataLow r4 r5 r6 r7 checksum) 9)

/-- Any other response (42_decoder.md R61, 43_commands.md R81). -/
def execRspAny (cmd dataHigh dataLow r4 r5 r6 r7 checksum : Byte) (s : State) : Host.Outcome State Fault Refusal :=
  .next (s.presentRx (responseFrame cmd dataHigh dataLow r4 r5 r6 r7 checksum) 9)

end Sys2Proof.Machine
end

