-- ==== Sys2Proof/Machine/Dispatch.lean ====
section
/-! DEFINITION. One arm per row of opcode_table.json. -/

namespace Sys2Proof.Machine

def exec (i : Instr) (s : State) : Host.Outcome State Fault Refusal :=
  match i with
  | .readCo2 k => Sys2Proof.Machine.execReadCo2 k s
  | .calZero k => Sys2Proof.Machine.execCalZero k s
  | .calSpan v k => Sys2Proof.Machine.execCalSpan v k s
  | .setAbcOn k => Sys2Proof.Machine.execSetAbcOn k s
  | .setAbcOff k => Sys2Proof.Machine.execSetAbcOff k s
  | .setRange2000 k => Sys2Proof.Machine.execSetRange2000 k s
  | .setRange5000 k => Sys2Proof.Machine.execSetRange5000 k s
  | .cmdRaw c p0 p1 p2 p3 k => Sys2Proof.Machine.execCmdRaw c p0 p1 p2 p3 k s
  | .rspReadCo2 dh dl r4 r5 r6 r7 k => Sys2Proof.Machine.execRspReadCo2 dh dl r4 r5 r6 r7 k s
  | .rspAny c dh dl r4 r5 r6 r7 k => Sys2Proof.Machine.execRspAny c dh dl r4 r5 r6 r7 k s

end Sys2Proof.Machine
end

