-- ==== Sys2Proof/Machine/Apply.lean ====
section
/-! DEFINITION. What each presentation of the host does to the state, and which presentation a frame is. -/

namespace Sys2Proof.Machine

/-- Apply the operation nine bytes of format C stand for (30_encoding.md R42). Bytes that are no command frame stand for
no operation. -/
def applyCommand (f : Frame) (s : State) : Host.Outcome State Fault Refusal :=
  match decode .command f.toList with
  | .ok (i, _) => exec i s
  | .error e => .refused (.notACommandFrame e)

/-- Present received bytes. Nine available bytes that are a format R instruction run as that instruction; a short or a
misframed input has no name in the table and goes to DEC and the response half all the same, which report the error
(42_decoder.md R62, R64). -/
def applyReceive (f : Frame) (len : BitVec 4) (s : State) : Host.Outcome State Fault Refusal :=
  if len = 9 then
    match decode .response f.toList with
    | .ok (i, _) => exec i s
    | .error _ => .next (s.presentRx f len)
  else .next (s.presentRx f len)

/-- One presentation of the host (70_reset_and_hazards.md R121, R122). -/
def applyAct (a : HostAct) (s : State) : Host.Outcome State Fault Refusal :=
  match a with
  | .command f => applyCommand f s
  | .receive f len => applyReceive f len s
  | .request op arg flag => .next (((s.driveOp op).driveArg arg).driveFlag flag).sampleRequest
  | .respondTo op => .next (s.driveRspOp op)
  | .expect en cmd => .next (s.driveExp en cmd)
  | .build cmd plen p => .next (s.driveEnc cmd plen p).sampleBuilt
  | .checksum b => .next (s.driveCks b).sampleChecksum

/-- The presentation a frame is: the operation it stands for if it is a command frame, else nine received bytes
(log entry 10). -/
def actOfFrame (f : Frame) : HostAct :=
  match decode .command f.toList with
  | .ok _ => .command f
  | .error _ => .receive f 9

/-- The frame a table word is: byte 0 at bits 71:64 (30_encoding.md R32). -/
def frameOfTableWord (w : Nat) : Frame := Frame.ofPacked (BitVec.ofNat 72 w)

end Sys2Proof.Machine
end

