-- ==== Sys2Proof/Machine/Step.lean ====
section
/-! DEFINITION. One step: the host's next presentation (70_reset_and_hazards.md R121). The block has no program counter
and fetches nothing (10_state.md R11, 20_memory.md R28). -/

namespace Sys2Proof.Machine

/-- One application of one of the block's functions; a run ends when the host's list ends (R121). -/
def step (s : State) : Host.Outcome State Fault Refusal :=
  match s.host with
  | [] => .fault .endOfRun
  | a :: rest => applyAct a (s.advance rest)

/-- `s` with the frame of a table word as the host's next presentation. `_nbits` is 72 for every row of the table. -/
def State.withFetchWord (s : State) (_nbits w : Nat) : State :=
  { s with host := actOfFrame (frameOfTableWord w) :: s.host }

end Sys2Proof.Machine
end

