-- ==== Sys2Proof/Machine/Transaction.lean ====
section
/-! DEFINITION. The whole-transaction view (43_commands.md R91): the request half, a link that is an input of the model,
the response half. The link and its errors are the host's (60_exceptions.md R100); the block produces none of them. -/

namespace Sys2Proof.Machine

/-- `TransportError`'s variants, named so that a reader can place them; the block never raises one
(60_exceptions.md R96, R100). -/
inductive TransportErr where
  | timeout
  | incomplete
  | io
  deriving DecidableEq, Repr

/-- What the link does with a frame that is sent (43_commands.md R91): it fails at the write, fails at the read, or
delivers bytes. -/
inductive Link where
  | writeFailed (e : TransportErr)
  | readFailed (e : TransportErr)
  | delivered (frame : Frame) (len : BitVec 4)
  deriving DecidableEq, Repr

/-- How a transaction ends (43_commands.md R91). -/
inductive TxResult where
  /-- "Nothing happened": refused before any input or output. -/
  | refused (e : Err)
  /-- The transport's error, surfaced unchanged. -/
  | transport (e : TransportErr)
  /-- The response half's outcome. -/
  | answered (r : UnitResult Reply)
  deriving DecidableEq, Repr

/-- One transaction (43_commands.md R91). -/
def transaction (op : Byte) (arg : Half) (flag : Bool) (link : Link) : TxResult :=
  match request op arg flag with
  | .err e => .refused e
  | .ok _ =>
    match link with
    | .writeFailed e => .transport e
    | .readFailed e => .transport e
    | .delivered f len => .answered (response op f len)

/-- The command counts as sent once the write succeeds, whatever becomes of the reply (43_commands.md R91). -/
def sentToLink (op : Byte) (arg : Half) (flag : Bool) (link : Link) : Bool :=
  match request op arg flag, link with
  | .err _, _ => false
  | .ok _, .writeFailed _ => false
  | .ok _, .readFailed _ => true
  | .ok _, .delivered _ _ => true

/-- A transaction whose link delivers, as presentations to the block: the request, the pairing, the reply
(70_reset_and_hazards.md R116). -/
def transactionActs (op : Byte) (arg : Half) (flag : Bool) (f : Frame) (len : BitVec 4) : List HostAct :=
  [.request op arg flag, .respondTo op, .receive f len]

end Sys2Proof.Machine
end

