-- ==== Sys2Proof/Safety.lean ====
section
/-! DEFINITION. What the claims speak of: which outcomes the rules allow, the invariant that every outcome of a run is
one of them, the host's duties as a check on a log of what the host does (70_reset_and_hazards.md R113 to R119), and the
test-only helper of 95_test_vectors.md section 5. No meaning of an instruction uses anything of this file. -/

namespace Sys2Proof.Safety

open Sys2Proof.Machine

/-- What every frame ENC produces satisfies (41_encoder.md R54). -/
def goodCommandFrame (f : Frame) : Bool :=
  f.b0 == Config.start && f.b1 == Config.sensorNum && f.b7 == Config.reservedCmdByte && validChecksum f

/-- What every frame of the command layer satisfies besides (43_commands.md R89). -/
def goodRequestFrame (f : Frame) : Bool :=
  goodCommandFrame f && isCommandCode f.b2 && f.b5 == 0 && f.b6 == 0

/-- The three errors PARSE can report (42_decoder.md R61). -/
def parseError (e : Err) : Bool := e == .badLength || e == .badStart || e == .checksumMismatch

/-- PARSE reports only its own three errors. -/
def legalParsed : Option (UnitResult Parsed) → Bool
  | some (.err e) => parseError e
  | _ => true

/-- Where DEC's outcome is specified, it is PARSE's error, a refused echo, or PARSE's fields with the concentration
(42_decoder.md R68). -/
def legalDecoded (p : Option (UnitResult Parsed)) (d : Option (UnitResult Decoded)) : Bool :=
  match p, d with
  | _, none => true
  | some (.err e), some (.err e') => e == e'
  | some (.err _), some (.ok _) => false
  | some (.ok q), some (.ok r) => r == decodedOf q
  | some (.ok _), some (.err e) => e == .unexpectedCommand
  | none, some _ => false

/-- The response half trusts no frame PARSE rejected: a concentration is that of a valid frame that echoes 0x86, an
acknowledgement is of a valid frame, and an error is PARSE's, a refused echo, or a bad operation code
(43_commands.md R77, R88). -/
def legalReply (p : Option (UnitResult Parsed)) (r : Option (UnitResult Reply)) : Bool :=
  match r with
  | none => true
  | some (.err .invalidArgument) => true
  | some (.err .unexpectedCommand) => match p with
    | some (.ok q) => q.commandCode != Config.cmdRead
    | _ => false
  | some (.err e) => p == some (.err e)
  | some (.ok .ack) => match p with
    | some (.ok _) => true
    | _ => false
  | some (.ok (.ppm v)) => match p with
    | some (.ok q) => q.commandCode == Config.cmdRead && v == ppmOf q.dataHigh q.dataLow
    | _ => false

/-- An outcome the rules allow. -/
def legalOutcome : Sampled → Bool
  | .checksum _ => true
  | .built none => true
  | .built (some f) => goodCommandFrame f
  | .request none => true
  | .request (some (.ok f)) => goodRequestFrame f
  | .request (some (.err e)) => e == .invalidArgument
  | .received p d r => legalParsed p && legalDecoded p d && legalReply p r

/-- The invariant: every outcome the run has produced is one the rules allow. -/
abbrev LegalRun (s : State) : Prop := ∀ x ∈ s.outcomes, legalOutcome x = true

/-! ## The host's duties -/

/-- What a host does in a session, the link included (70_reset_and_hazards.md R122). -/
inductive HostEvent where
  /-- Applies the request half; it may do so at any time. -/
  | request (op : Byte) (arg : Half) (flag : Bool)
  /-- Writes all nine bytes of `cmd_tx_frame` to the link. -/
  | send
  /-- Applies the response half, with this `rsp_op`, to bytes received after the write. -/
  | reply (rspOp : Byte) (frame : Frame) (len : BitVec 4)
  /-- Gives the reply up as failed, what arrived of it being discarded. -/
  | giveUp
  /-- Uses a raw port; no duty hangs on it. -/
  | rawPort
  deriving DecidableEq, Repr

/-- What the duties look back on: the last request and whether `req_ok` was 1, and the command that awaits its reply. -/
structure Session where
  applied : Option (Byte × Bool)
  outstanding : Option Byte
  deriving DecidableEq, Repr

/-- Nothing applied, nothing outstanding. -/
def Session.idle : Session := ⟨none, none⟩

/-- The duties of R113 (one outstanding transaction), R114 (write before read), R116 (pairing), R118 (resolve before the
next) and R119 (send only on `req_ok`). -/
def Session.allows (k : Session) : HostEvent → Bool
  | .request _ _ _ => true
  | .send => k.outstanding == none && (match k.applied with
    | some (_, sendable) => sendable
    | none => false)
  | .reply op _ _ => k.outstanding == some op
  | .giveUp => k.outstanding != none
  | .rawPort => true

/-- The session after an event. -/
def Session.after (k : Session) : HostEvent → Session
  | .request op arg flag => { k with applied := some (op, okBit (Machine.request op arg flag)) }
  | .send => { k with outstanding := k.applied.map Prod.fst }
  | .reply _ _ _ => { k with outstanding := none }
  | .giveUp => { k with outstanding := none }
  | .rawPort => k

/-- A log in which the host keeps its duties throughout. -/
def dutiful : Session → List HostEvent → Bool
  | _, [] => true
  | k, e :: rest => k.allows e && dutiful (k.after e) rest

/-- The writes of a log. -/
def sends : List HostEvent → Nat
  | [] => 0
  | .send :: rest => sends rest + 1
  | _ :: rest => sends rest

/-- The replies a log resolves: handed to the response half, or given up. -/
def resolved : List HostEvent → Nat
  | [] => 0
  | .reply _ _ _ :: rest => resolved rest + 1
  | .giveUp :: rest => resolved rest + 1
  | _ :: rest => resolved rest

/-! ## The test-only helper -/

/-- `ECHO_AS_RESPONSE`: a command's bytes laid out as a response (95_test_vectors.md section 5; not part of the block). -/
def echoAsResponse (cmd q0 q1 q2 q3 : Byte) : Frame :=
  responseFrame cmd q0 q1 q2 q3 0 0 (cks cmd q0 q1 q2 q3 0 0)

end Sys2Proof.Safety
end

