-- ==== Sys2Proof/Certificates/Slice0/Obligations.lean ====
section
/-! DEFINITION. What the provers are asked to settle. Each docstring names the rule or section of spec/ it formalises. -/

section

open Sys2Proof Sys2Proof.Machine Sys2Proof.Safety

/-! ## CKS and VERIFY8 -/

/-- 40_checksum.md R45: the formula, the range of the sum, the byte on `cks_out`, no effect but that, the worked
example. -/
def Obligations.ChecksumFollowsItsFormula : Prop :=
  (∀ b1 b2 b3 b4 b5 b6 b7 : Byte,
    let sum := b1.toNat + b2.toNat + b3.toNat + b4.toNat + b5.toNat + b6.toNat + b7.toNat
    sum ≤ 1785 ∧ (cks b1 b2 b3 b4 b5 b6 b7).toNat = (0xFF - sum % 256 + 1) % 256 ∧
      (cks b1 b2 b3 b4 b5 b6 b7).toNat = (256 - sum % 256) % 256 ∧
      cks b1 b2 b3 b4 b5 b6 b7 = -(b1 + b2 + b3 + b4 + b5 + b6 + b7)) ∧
  (∀ (b : Covered) (s : State), ∃ t, applyAct (.checksum b) s = .next t ∧
    t.cksOut = cks b.b1 b.b2 b.b3 b.b4 b.b5 b.b6 b.b7 ∧
    t = { s with cksB := some b,
                 outcomes := s.outcomes ++ [.checksum (some (cks b.b1 b.b2 b.b3 b.b4 b.b5 b.b6 b.b7))] }) ∧
  (cks 0x01 0x86 0 0 0 0 0 = 0x79)

/-- 40_checksum.md section 1 (R46 marks its forms as derived): four ways to write the checksum. -/
def Obligations.ChecksumHasFourEqualForms : Prop :=
  ∀ b1 b2 b3 b4 b5 b6 b7 : Byte,
    let sum := b1.toNat + b2.toNat + b3.toNat + b4.toNat + b5.toNat + b6.toNat + b7.toNat
    (cks b1 b2 b3 b4 b5 b6 b7).toNat = (256 - sum % 256) % 256 ∧
    cks b1 b2 b3 b4 b5 b6 b7 = BitVec.ofInt 8 (-(sum : Int)) ∧
    (cks b1 b2 b3 b4 b5 b6 b7).toNat = ((~~~ BitVec.ofNat 8 (sum % 256)).toNat + 1) % 256 ∧
    cks b1 b2 b3 b4 b5 b6 b7 = ~~~ (b1 + b2 + b3 + b4 + b5 + b6 + b7) + 1

/-- 40_checksum.md R50: truncation changes the value exactly when the sum is a multiple of 256; the largest sum. -/
def Obligations.ChecksumTruncatesOnlyAtMultiplesOf256 : Prop :=
  (∀ b1 b2 b3 b4 b5 b6 b7 : Byte,
    let s := (b1.toNat + b2.toNat + b3.toNat + b4.toNat + b5.toNat + b6.toNat + b7.toNat) % 256
    s ≤ 0xFF ∧
    (s = 0 → 0xFF - s + 1 = 0x100 ∧ cks b1 b2 b3 b4 b5 b6 b7 = 0) ∧
    (s ≠ 0 → 1 ≤ s ∧ (cks b1 b2 b3 b4 b5 b6 b7).toNat = 256 - s ∧ 1 ≤ 256 - s ∧ 256 - s ≤ 255)) ∧
  (∀ b1 b2 b3 b4 b5 b6 b7 : Byte,
    b1.toNat + b2.toNat + b3.toNat + b4.toNat + b5.toNat + b6.toNat + b7.toNat ≤ 1785) ∧
  byteSum 0xFF 0xFF 0xFF 0xFF 0xFF 0xFF 0xFF = 1785 ∧ cks 0xFF 0xFF 0xFF 0xFF 0xFF 0xFF 0xFF = 0x07 ∧
  cks 0 0 0 0 0 0 0 = 0 ∧ cks 0x01 0xFF 0 0 0 0 0 = 0

/-- 40_checksum.md section 3, law (c) (derived there): the checksum does not depend on the order of its bytes. -/
def Obligations.ChecksumIgnoresTheOrderOfItsBytes : Prop :=
  ∀ (b : Fin 7 → Byte) (p : Equiv.Perm (Fin 7)),
    cks (b (p 0)) (b (p 1)) (b (p 2)) (b (p 3)) (b (p 4)) (b (p 5)) (b (p 6)) =
      cks (b 0) (b 1) (b 2) (b 3) (b 4) (b 5) (b 6)

/-- 40_checksum.md section 3, law (d) (derived there): a change of exactly one of bytes 1 to 8 of a valid frame
invalidates it. -/
def Obligations.AnySingleByteChangeInvalidatesTheChecksum : Prop :=
  ∀ (v : Fin 8 → Byte) (i : Fin 8) (x : Byte), x ≠ v i →
    verify8 (v 0) (v 1) (v 2) (v 3) (v 4) (v 5) (v 6) (v 7) = true →
    let w := Function.update v i x
    verify8 (w 0) (w 1) (w 2) (w 3) (w 4) (w 5) (w 6) (w 7) = false

/-- 40_checksum.md section 2 (the sum form is derived there): VERIFY8 accepts exactly the eight bytes that sum to a
multiple of 256, so it accepts what CKS appends. -/
def Obligations.VerifyAcceptsExactlyZeroSums : Prop :=
  ∀ b1 b2 b3 b4 b5 b6 b7 b8 : Byte,
    (verify8 b1 b2 b3 b4 b5 b6 b7 b8 = true ↔
      (b1.toNat + b2.toNat + b3.toNat + b4.toNat + b5.toNat + b6.toNat + b7.toNat + b8.toNat) % 256 = 0) ∧
    verify8 b1 b2 b3 b4 b5 b6 b7 (cks b1 b2 b3 b4 b5 b6 b7) = true

/-- 40_checksum.md section 3 (R52 is derived): what the checksum does not see. Byte 0 is not covered, swapping two
covered bytes is not noticed, and two errors that cancel modulo 256 are not noticed. -/
def Obligations.ChecksumBlindSpots : Prop :=
  ∀ (f : Frame) (x : Byte),
    validChecksum { f with b0 := x } = validChecksum f ∧
    validChecksum { f with b2 := f.b3, b3 := f.b2 } = validChecksum f ∧
    validChecksum { f with b2 := f.b2 + x, b7 := f.b7 - x } = validChecksum f

/-! ## BUILD -/

/-- 41_encoder.md R53: BUILD through the raw ENC ports, for every `enc_plen` the contract allows. -/
def Obligations.BuildLaysOutTheCommandFrame : Prop :=
  (∀ (cmd : Byte) (plen : BitVec 3) (p : Payload) (s : State), plen.toNat ≤ 4 →
    let q0 := if 0 < plen.toNat then p.p0 else 0
    let q1 := if 1 < plen.toNat then p.p1 else 0
    let q2 := if 2 < plen.toNat then p.p2 else 0
    let q3 := if 3 < plen.toNat then p.p3 else 0
    let frame : Frame := ⟨0xFF, 0x01, cmd, q0, q1, q2, q3, 0x00, cks 0x01 cmd q0 q1 q2 q3 0x00⟩
    ∃ t, applyAct (.build cmd plen p) s = .next t ∧ t.txFrame = frame ∧
      t = { s with encCmd := some cmd, encPlen := some plen, encP := some p,
                   outcomes := s.outcomes ++ [.built (some frame)] }) ∧
  build 0x86 0 ⟨0, 0, 0, 0⟩ = ⟨0xFF, 0x01, 0x86, 0, 0, 0, 0, 0, 0x79⟩

/-- 41_encoder.md R57: `enc_plen` 5, 6 and 7 act as 4, and ENC stays total. -/
def Obligations.PayloadLengthsAboveFourActAsFour : Prop :=
  ∀ (cmd : Byte) (plen : BitVec 3) (p : Payload) (s : State), 4 < plen.toNat →
    ∃ t, applyAct (.build cmd plen p) s = .next t ∧
      t.txFrame = build cmd 4 p ∧ (build cmd 4 p).b3 = p.p0 ∧ (build cmd 4 p).b4 = p.p1 ∧
      (build cmd 4 p).b5 = p.p2 ∧ (build cmd 4 p).b6 = p.p3

/-- 41_encoder.md R54: what every frame ENC produces satisfies. -/
def Obligations.EveryBuiltFrameIsWellFormed : Prop :=
  ∀ (cmd : Byte) (plen : BitVec 3) (p : Payload),
    let f := build cmd plen p
    f.toList.length = 9 ∧ f.b0 = 0xFF ∧ f.b1 = 0x01 ∧ f.b2 = cmd ∧ f.b7 = 0x00 ∧ f.b8 = frameCks f ∧
      validChecksum f = true

/-- 41_encoder.md (R55 and R59 are derived): two BUILDs give one frame exactly when code and padded payload agree, so
a padded zero cannot be told from a supplied one. -/
def Obligations.BuildIsInjectiveUpToPadding : Prop :=
  (∀ (c c' : Byte) (n n' : BitVec 3) (p p' : Payload),
    build c n p = build c' n' p' ↔ c = c' ∧ padded n p = padded n' p') ∧
  (∀ (c x y z x' y' z' w' : Byte), build c 1 ⟨0, x, y, z⟩ = build c 0 ⟨x', y', z', w'⟩)

/-! ## PARSE, ECHO, PPM, DEC -/

/-- 42_decoder.md R61, R62, R64, R65, R66: each outcome of PARSE and its exact condition; no received byte of a short
input is on an output; the worked example. (A short input whose lanes are not driven: IgnoredInputsNeedNotBeDriven.) -/
def Obligations.ParseOutcomeByCondition : Prop :=
  (∀ (f : Frame) (len : BitVec 4),
    (len.toNat < 9 → parse f len = .err .badLength) ∧
    (9 ≤ len.toNat → f.b0 ≠ 0xFF → parse f len = .err .badStart) ∧
    (9 ≤ len.toNat → f.b0 = 0xFF → f.b8 ≠ cks f.b1 f.b2 f.b3 f.b4 f.b5 f.b6 f.b7 →
      parse f len = .err .checksumMismatch) ∧
    (9 ≤ len.toNat → f.b0 = 0xFF → f.b8 = cks f.b1 f.b2 f.b3 f.b4 f.b5 f.b6 f.b7 →
      parse f len = .ok ⟨f.b1, f.b2, f.b3⟩)) ∧
  (∀ (s : State) (f : Frame) (len : BitVec 4) (en : Bool) (c : Byte), s.rxFrame = some f → s.rxLen = some len →
    s.expEn = some en → s.expCmd = some c → len.toNat < 9 →
    s.decOutcome = some (.err .badLength) ∧ s.decWires = ⟨false, 1, 0, 0, 0, 0⟩) ∧
  parse ⟨0xFF, 0x86, 0x02, 0x5C, 0, 0, 0, 0, 0x1C⟩ 9 = .ok ⟨0x86, 0x02, 0x5C⟩

/-- 42_decoder.md R63: `rx_len` 10 to 15 acts as 9. -/
def Obligations.LengthsAboveNineActAsNine : Prop :=
  ∀ (f : Frame) (len : BitVec 4) (en : Bool) (c op : Byte), 9 < len.toNat →
    parse f len = parse f 9 ∧ dec f len en c = dec f 9 en c ∧ response op f len = response op f 9

/-- 42_decoder.md R70: DEC's outcome is the error of the first test that fails, in the order length, start, checksum,
echo; with no failing test it is the fields. -/
def Obligations.FirstFailingTestDecidesTheOutcome : Prop :=
  ∀ (f : Frame) (len : BitVec 4) (en : Bool) (c : Byte),
    let short := len.toNat < 9
    let badStart := f.b0 ≠ 0xFF
    let badSum := f.b8 ≠ cks f.b1 f.b2 f.b3 f.b4 f.b5 f.b6 f.b7
    let badEcho := en = true ∧ f.b1 ≠ c
    (dec f len en c = .err .badLength ↔ short) ∧
    (dec f len en c = .err .badStart ↔ ¬short ∧ badStart) ∧
    (dec f len en c = .err .checksumMismatch ↔ ¬short ∧ ¬badStart ∧ badSum) ∧
    (dec f len en c = .err .unexpectedCommand ↔ ¬short ∧ ¬badStart ∧ ¬badSum ∧ badEcho) ∧
    (dec f len en c = .ok ⟨f.b1, f.b2, f.b3, f.b2 ++ f.b3⟩ ↔ ¬short ∧ ¬badStart ∧ ¬badSum ∧ ¬badEcho)

/-- 42_decoder.md section 4 (R72 is derived): DEC never reports InvalidArgument, and for every seven covered bytes
exactly one checksum byte is accepted. -/
def Obligations.ExactlyOneChecksumByteIsAccepted : Prop :=
  (∀ (f : Frame) (len : BitVec 4) (en : Bool) (c : Byte), dec f len en c ≠ .err .invalidArgument) ∧
  (∀ b1 b2 b3 b4 b5 b6 b7 : Byte, ∃ k, ∀ k' : Byte,
    (parse ⟨0xFF, b1, b2, b3, b4, b5, b6, b7, k'⟩ 9 = .ok ⟨b1, b2, b3⟩ ↔ k' = k) ∧
    (parse ⟨0xFF, b1, b2, b3, b4, b5, b6, b7, k'⟩ 9 = .err .checksumMismatch ↔ k' ≠ k))

/-- 42_decoder.md R67: ECHO runs only after a successful PARSE, refuses exactly a differing code when enabled, and the
command layer enables it for 0x86 only. -/
def Obligations.EchoCheckOnlyWhenEnabled : Prop :=
  (∀ (f : Frame) (len : BitVec 4) (en : Bool) (c : Byte) (p : Parsed), parse f len = .ok p →
    (en = true → p.commandCode ≠ c → dec f len en c = .err .unexpectedCommand) ∧
    ((en = false ∨ p.commandCode = c) → dec f len en c = .ok (decodedOf p))) ∧
  (∀ (f : Frame) (len : BitVec 4) (en : Bool) (c : Byte) (e : Err), parse f len = .err e → dec f len en c = .err e) ∧
  (∀ (f : Frame) (len : BitVec 4), response 0x86 f len = ppmReply (dec f len true 0x86)) ∧
  (∀ (op : Byte) (f : Frame) (len : BitVec 4), op = 0x87 ∨ op = 0x88 ∨ op = 0x79 ∨ op = 0x99 →
    response op f len = ackReply (dec f len false 0) ∧ response op f len ≠ .err .unexpectedCommand) ∧
  dec ⟨0xFF, 0x87, 0, 0, 0, 0, 0, 0, 0x79⟩ 9 true 0x86 = .err .unexpectedCommand

/-- 42_decoder.md R69: the concentration is the big-endian pair, delivered on every successful decode whatever the
echoed code, and neither clamped nor able to overflow: every 16-bit value is some reply's. -/
def Obligations.ConcentrationIsTheBigEndianPair : Prop :=
  (∀ h l : Byte, (ppmOf h l).toNat = h.toNat * 256 + l.toNat ∧ (ppmOf h l).toNat ≤ 65535) ∧
  (∀ (f : Frame) (len : BitVec 4) (en : Bool) (c : Byte) (d : Decoded), dec f len en c = .ok d →
    d.ppm.toNat = f.b2.toNat * 256 + f.b3.toNat ∧ (decWiresOf (dec f len en c)).ppm = d.ppm) ∧
  (∀ v : Half, ∃ f : Frame, response 0x86 f 9 = .ok (.ppm v)) ∧
  ppmOf 0x02 0x5C = 604

/-- 10_state.md R15: the status pair and the data outputs of DEC and of both halves of CMD, in every state whose inputs
decide the outcome; they follow the outcome and nothing else, so they are not sticky. -/
def Obligations.StatusWiresTellTheOutcome : Prop :=
  (∀ (s : State) (e : Err), s.decOutcome = some (.err e) →
    s.decWires = ⟨false, e.code, 0, 0, 0, 0⟩ ∧ e.code ≠ 0) ∧
  (∀ (s : State) (d : Decoded), s.decOutcome = some (.ok d) → s.decWires = ⟨true, 0, d.cmd, d.dh, d.dl, d.ppm⟩) ∧
  (∀ (s : State) (e : Err), s.reqOutcome = some (.err e) →
    s.reqWires = ⟨false, e.code, ⟨0, 0, 0, 0, 0, 0, 0, 0, 0⟩⟩ ∧ e.code ≠ 0) ∧
  (∀ (s : State) (f : Frame), s.reqOutcome = some (.ok f) → s.reqWires = ⟨true, 0, f⟩) ∧
  (∀ (s : State) (e : Err), s.resOutcome = some (.err e) →
    s.resWires = ⟨false, e.code, 0⟩ ∧ e.code ≠ 0) ∧
  (∀ (s : State) (v : Half), s.resOutcome = some (.ok (.ppm v)) → s.resWires = ⟨true, 0, v⟩) ∧
  (∀ s : State, s.resOutcome = some (.ok .ack) → s.resWires = ⟨true, 0, 0⟩) ∧
  (∀ (s s' : State) (r : UnitResult Decoded), s.decOutcome = some r → s'.decOutcome = some r →
    s.decWires = s'.decWires) ∧
  (∀ (s s' : State) (r : UnitResult Frame), s.reqOutcome = some r → s'.reqOutcome = some r → s.reqWires = s'.reqWires) ∧
  (∀ (s s' : State) (r : UnitResult Reply), s.resOutcome = some r → s'.resOutcome = some r → s.resWires = s'.resWires)

/-- 60_exceptions.md R97: the code each unit carries and when; 6 and 7 are never produced. -/
def Obligations.ErrorCodesFollowTheTable : Prop :=
  (∀ (f : Frame) (len : BitVec 4) (en : Bool) (c : Byte),
    (decWiresOf (dec f len en c)).err =
      if len.toNat < 9 then 1
      else if f.b0 ≠ 0xFF then 2
      else if f.b8 ≠ cks f.b1 f.b2 f.b3 f.b4 f.b5 f.b6 f.b7 then 3
      else if en = true ∧ f.b1 ≠ c then 4
      else 0) ∧
  (∀ (op : Byte) (arg : Half) (flag : Bool),
    (reqWiresOf (request op arg flag)).err =
      if (op = 0x88 ∧ arg.toNat < 1000) ∨ (op = 0x99 ∧ arg ≠ 2000 ∧ arg ≠ 5000) ∨
        (op ≠ 0x86 ∧ op ≠ 0x87 ∧ op ≠ 0x88 ∧ op ≠ 0x79 ∧ op ≠ 0x99) then 5
      else 0) ∧
  (∀ (op : Byte) (f : Frame) (len : BitVec 4),
    (resWiresOf (response op f len)).err =
      if op ≠ 0x86 ∧ op ≠ 0x87 ∧ op ≠ 0x88 ∧ op ≠ 0x79 ∧ op ≠ 0x99 then 5
      else if len.toNat < 9 then 1
      else if f.b0 ≠ 0xFF then 2
      else if f.b8 ≠ cks f.b1 f.b2 f.b3 f.b4 f.b5 f.b6 f.b7 then 3
      else if op = 0x86 ∧ f.b1 ≠ 0x86 then 4
      else 0) ∧
  (∀ r : UnitResult Decoded, (decWiresOf r).ok = true ↔ (decWiresOf r).err = 0) ∧
  (∀ r : UnitResult Frame, (reqWiresOf r).ok = true ↔ (reqWiresOf r).err = 0) ∧
  (∀ r : UnitResult Reply, (resWiresOf r).ok = true ↔ (resWiresOf r).err = 0)

/-- 60_exceptions.md R102: of all the conditions that hold, the response half reports the first of InvalidArgument,
BadLength, BadStart, ChecksumMismatch, UnexpectedCommand; the two halves do not compete. -/
def Obligations.HighestPriorityErrorIsReported : Prop :=
  (∀ (op : Byte) (f : Frame) (len : BitVec 4),
    let holds : Err → Prop := fun e => match e with
      | .invalidArgument => isCommandCode op = false
      | .badLength => len.toNat < 9
      | .badStart => f.b0 ≠ 0xFF
      | .checksumMismatch => f.b8 ≠ cks f.b1 f.b2 f.b3 f.b4 f.b5 f.b6 f.b7
      | .unexpectedCommand => op = 0x86 ∧ f.b1 ≠ 0x86
    (∀ e, response op f len = .err e ↔ holds e ∧ ∀ e', holds e' → e.rank ≤ e'.rank) ∧
    ((∃ r, response op f len = .ok r) ↔ ∀ e, ¬holds e)) ∧
  (∀ (s : State) (op : Byte) (arg : Half) (flag : Bool) (rsp : Byte) (f : Frame) (len : BitVec 4),
    (((s.driveOp op).driveArg arg).driveFlag flag).resOutcome = s.resOutcome ∧
    ((s.driveRspOp rsp).driveRx f len).reqOutcome = s.reqOutcome)

/-- 60_exceptions.md R98: the complete list of the causes of InvalidArgument, and that it leaves nine zero bytes,
`req_ok = 0` and no write. -/
def Obligations.InvalidArgumentHasExactlyFourCauses : Prop :=
  (∀ (op : Byte) (arg : Half) (flag : Bool),
    (request op arg flag = .err .invalidArgument ↔
      (op = 0x88 ∧ arg.toNat < 1000) ∨ (op = 0x99 ∧ arg ≠ 2000 ∧ arg ≠ 5000) ∨
      (op ≠ 0x86 ∧ op ≠ 0x87 ∧ op ≠ 0x88 ∧ op ≠ 0x79 ∧ op ≠ 0x99)) ∧
    (∀ e, request op arg flag = .err e → e = .invalidArgument ∧
      reqWiresOf (request op arg flag) = ⟨false, 5, ⟨0, 0, 0, 0, 0, 0, 0, 0, 0⟩⟩ ∧
      ∀ link, sentToLink op arg flag link = false)) ∧
  (∀ (op : Byte) (f : Frame) (len : BitVec 4),
    response op f len = .err .invalidArgument ↔
      (op ≠ 0x86 ∧ op ≠ 0x87 ∧ op ≠ 0x88 ∧ op ≠ 0x79 ∧ op ≠ 0x99))

/-! ## The command rows -/

/-- 43_commands.md section 2: READ_CO2 emits its constant frame in every state, whatever `cmd_arg` and `cmd_flag` are.
The frame is R78's, which RequestsFollowTheirRules states with every input driven; that the row runs with `cmd_arg` or
`cmd_flag` not driven is log entry 2 and that it runs whatever its checksum byte is log entry 7. -/
def Obligations.ReadCo2EmitsItsConstantFrame : Prop :=
  (∀ (k : Byte) (s : State), ∃ t, exec (.readCo2 k) s = .next t ∧
    t.reqWires = ⟨true, 0, ⟨0xFF, 0x01, 0x86, 0, 0, 0, 0, 0, 0x79⟩⟩ ∧
    t = { s with cmdOp := some 0x86,
                 outcomes := s.outcomes ++ [.request (some (.ok ⟨0xFF, 0x01, 0x86, 0, 0, 0, 0, 0, 0x79⟩))] }) ∧
  (∀ (arg : Half) (flag : Bool), request 0x86 arg flag = .ok ⟨0xFF, 0x01, 0x86, 0, 0, 0, 0, 0, 0x79⟩)

/-- 43_commands.md section 3: CAL_ZERO emits its constant frame in every state, whatever `cmd_arg` and `cmd_flag` are.
The frame is R80's, which RequestsFollowTheirRules states with every input driven; that the row runs with `cmd_arg` or
`cmd_flag` not driven is log entry 2 and that it runs whatever its checksum byte is log entry 7. -/
def Obligations.CalZeroEmitsItsConstantFrame : Prop :=
  (∀ (k : Byte) (s : State), ∃ t, exec (.calZero k) s = .next t ∧
    t.reqWires = ⟨true, 0, ⟨0xFF, 0x01, 0x87, 0, 0, 0, 0, 0, 0x78⟩⟩ ∧
    t = { s with cmdOp := some 0x87,
                 outcomes := s.outcomes ++ [.request (some (.ok ⟨0xFF, 0x01, 0x87, 0, 0, 0, 0, 0, 0x78⟩))] }) ∧
  (∀ (arg : Half) (flag : Bool), request 0x87 arg flag = .ok ⟨0xFF, 0x01, 0x87, 0, 0, 0, 0, 0, 0x78⟩)

/-- 43_commands.md section 4: CAL_SPAN refuses a target below 1000 ppm with nine zero bytes and sends nothing, and
emits the big-endian frame for every other 16-bit target, in every state. The frame is R82's, which
RequestsFollowTheirRules states with every input driven; that the row runs with `cmd_flag` not driven is log entry 2
and that it runs whatever its checksum byte is log entry 7. -/
def Obligations.CalSpanChecksAndEmitsItsTarget : Prop :=
  (∀ (v : Half) (k : Byte) (s : State), v.toNat < 1000 → ∃ t, exec (.calSpan v k) s = .next t ∧
    t.reqWires = ⟨false, 5, ⟨0, 0, 0, 0, 0, 0, 0, 0, 0⟩⟩ ∧
    t = { s with cmdOp := some 0x88, cmdArg := some v,
                 outcomes := s.outcomes ++ [.request (some (.err .invalidArgument))] }) ∧
  (∀ (v : Half) (k : Byte) (s : State), 1000 ≤ v.toNat →
    let hi : Byte := BitVec.ofNat 8 (v.toNat / 256)
    let lo : Byte := BitVec.ofNat 8 (v.toNat % 256)
    let frame : Frame := ⟨0xFF, 0x01, 0x88, hi, lo, 0, 0, 0, 0x77 - hi - lo⟩
    ∃ t, exec (.calSpan v k) s = .next t ∧ t.reqWires = ⟨true, 0, frame⟩ ∧
      t = { s with cmdOp := some 0x88, cmdArg := some v,
                   outcomes := s.outcomes ++ [.request (some (.ok frame))] }) ∧
  (∀ (v : Half) (flag : Bool), request 0x88 v flag = request 0x88 v false) ∧
  (∀ (v : Half) (flag : Bool) (link : Link), v.toNat < 1000 → sentToLink 0x88 v flag link = false)

/-- 43_commands.md section 5: SET_ABC emits 0xA0 or 0x00 in payload byte 0, in every state, whatever `cmd_arg` is. The
frame is R84's, which RequestsFollowTheirRules states with every input driven; that the row runs with `cmd_arg` not
driven is log entry 2 and that it runs whatever its checksum byte is log entry 7. -/
def Obligations.SetAbcEmitsItsTwoFrames : Prop :=
  (∀ (k : Byte) (s : State), ∃ t, exec (.setAbcOn k) s = .next t ∧
    t.reqWires = ⟨true, 0, ⟨0xFF, 0x01, 0x79, 0xA0, 0, 0, 0, 0, 0xE6⟩⟩ ∧
    t = { s with cmdOp := some 0x79, cmdFlag := some true,
                 outcomes := s.outcomes ++ [.request (some (.ok ⟨0xFF, 0x01, 0x79, 0xA0, 0, 0, 0, 0, 0xE6⟩))] }) ∧
  (∀ (k : Byte) (s : State), ∃ t, exec (.setAbcOff k) s = .next t ∧
    t.reqWires = ⟨true, 0, ⟨0xFF, 0x01, 0x79, 0x00, 0, 0, 0, 0, 0x86⟩⟩ ∧
    t = { s with cmdOp := some 0x79, cmdFlag := some false,
                 outcomes := s.outcomes ++ [.request (some (.ok ⟨0xFF, 0x01, 0x79, 0x00, 0, 0, 0, 0, 0x86⟩))] }) ∧
  (∀ arg : Half,
    request 0x79 arg true = .ok ⟨0xFF, 0x01, 0x79, 0xA0, 0, 0, 0, 0, 0xE6⟩ ∧
    request 0x79 arg false = .ok ⟨0xFF, 0x01, 0x79, 0x00, 0, 0, 0, 0, 0x86⟩)

/-- 43_commands.md section 6: SET_RANGE emits its frame for 2000 and 5000 ppm, in every state, and refuses every other
argument with nine zero bytes and nothing sent. The frame is R86's, which RequestsFollowTheirRules states with every
input driven; that the row runs with `cmd_flag` not driven is log entry 2 and that it runs whatever its checksum byte
is log entry 7. -/
def Obligations.SetRangeEmitsOnlyItsTwoFrames : Prop :=
  (∀ (k : Byte) (s : State), ∃ t, exec (.setRange2000 k) s = .next t ∧
    t.reqWires = ⟨true, 0, ⟨0xFF, 0x01, 0x99, 0x07, 0xD0, 0, 0, 0, 0x8F⟩⟩ ∧
    t = { s with cmdOp := some 0x99, cmdArg := some 2000,
                 outcomes := s.outcomes ++ [.request (some (.ok ⟨0xFF, 0x01, 0x99, 0x07, 0xD0, 0, 0, 0, 0x8F⟩))] }) ∧
  (∀ (k : Byte) (s : State), ∃ t, exec (.setRange5000 k) s = .next t ∧
    t.reqWires = ⟨true, 0, ⟨0xFF, 0x01, 0x99, 0x13, 0x88, 0, 0, 0, 0xCB⟩⟩ ∧
    t = { s with cmdOp := some 0x99, cmdArg := some 5000,
                 outcomes := s.outcomes ++ [.request (some (.ok ⟨0xFF, 0x01, 0x99, 0x13, 0x88, 0, 0, 0, 0xCB⟩))] }) ∧
  (∀ (arg : Half) (flag : Bool),
    request 0x99 arg flag =
      if arg = 2000 then .ok ⟨0xFF, 0x01, 0x99, 0x07, 0xD0, 0, 0, 0, 0x8F⟩
      else if arg = 5000 then .ok ⟨0xFF, 0x01, 0x99, 0x13, 0x88, 0, 0, 0, 0xCB⟩
      else .err .invalidArgument) ∧
  (∀ (arg : Half) (flag : Bool) (s : State), arg ≠ 2000 → arg ≠ 5000 →
    ∃ t, applyAct (.request 0x99 arg flag) s = .next t ∧ t.reqWires = ⟨false, 5, ⟨0, 0, 0, 0, 0, 0, 0, 0, 0⟩⟩) ∧
  (∀ (arg : Half) (flag : Bool) (link : Link), arg ≠ 2000 → arg ≠ 5000 → sentToLink 0x99 arg flag link = false)

/-- 43_commands.md R88: an operation code outside the five is refused by both halves; the response half does so whatever
`rx_frame` and `rx_len` are. (With these two not driven: IgnoredInputsNeedNotBeDriven.) -/
def Obligations.UnknownOperationCodesAreRefused : Prop :=
  ∀ op : Byte, op ≠ 0x86 → op ≠ 0x87 → op ≠ 0x88 → op ≠ 0x79 → op ≠ 0x99 →
    (∀ (arg : Half) (flag : Bool) (s : State), ∃ t, applyAct (.request op arg flag) s = .next t ∧
      t.reqWires = ⟨false, 5, ⟨0, 0, 0, 0, 0, 0, 0, 0, 0⟩⟩) ∧
    (∀ (arg : Half) (flag : Bool) (link : Link), sentToLink op arg flag link = false) ∧
    (∀ (s : State) (f : Frame) (len : BitVec 4), s.rxFrame = some f → s.rxLen = some len → s.rspOp = some op →
      s.resOutcome = some (.err .invalidArgument) ∧ s.resWires = ⟨false, 5, 0⟩) ∧
    (∀ (f f' : Frame) (len len' : BitVec 4), response op f len = response op f' len')

/-- 41_encoder.md, 30_encoding.md: CMD_RAW emits a frame with exactly its own code and payload bytes and the right
checksum, in every state. That all four lanes are supplied (`enc_plen` is 4) is the model's reading, log entry 8; that
the row runs whatever its own checksum byte is log entry 7. -/
def Obligations.CmdRawEmitsItsOwnBytes : Prop :=
  ∀ (cmd p0 p1 p2 p3 k : Byte) (s : State),
    let frame : Frame := ⟨0xFF, 0x01, cmd, p0, p1, p2, p3, 0x00, -(0x01 + cmd + p0 + p1 + p2 + p3)⟩
    ∃ t, exec (.cmdRaw cmd p0 p1 p2 p3 k) s = .next t ∧ t.txFrame = frame ∧
      t = { s with encCmd := some cmd, encPlen := some 4, encP := some ⟨p0, p1, p2, p3⟩,
                   outcomes := s.outcomes ++ [.built (some frame)] }

/-- 43_commands.md section 8 (R89 is derived): every frame the request half emits is well formed with zero bytes 5 to 7,
and two operations give one frame only if they agree in code and in the operand they read. -/
def Obligations.RequestFramesAreGoodAndDistinct : Prop :=
  (∀ (op : Byte) (arg : Half) (flag : Bool) (f : Frame), request op arg flag = .ok f →
    f.b0 = 0xFF ∧ f.b1 = 0x01 ∧ f.b2 = op ∧ f.b5 = 0 ∧ f.b6 = 0 ∧ f.b7 = 0 ∧ validChecksum f = true) ∧
  (∀ (op op' : Byte) (arg arg' : Half) (flag flag' : Bool) (f : Frame),
    request op arg flag = .ok f → request op' arg' flag' = .ok f →
    op = op' ∧ (readsArg op = true → arg = arg') ∧ (readsFlag op = true → flag = flag'))

/-! ## The response rows -/

/-- 43_commands.md R79, with `rsp_op` 0x86 driven: both format R rows complete in every state, and the response half
reports the concentration exactly of a valid frame that echoes 0x86; no other command checks the echo. -/
def Obligations.ReadResponseGivesTheConcentration : Prop :=
  (∀ (dh dl r4 r5 r6 r7 k : Byte) (s : State), s.rspOp = some 0x86 →
    ∃ t, exec (.rspReadCo2 dh dl r4 r5 r6 r7 k) s = .next t ∧
      t.resWires = (if k = cks 0x86 dh dl r4 r5 r6 r7 then ⟨true, 0, dh ++ dl⟩ else ⟨false, 3, 0⟩)) ∧
  (∀ (c dh dl r4 r5 r6 r7 k : Byte) (s : State), s.rspOp = some 0x86 →
    ∃ t, exec (.rspAny c dh dl r4 r5 r6 r7 k) s = .next t ∧
      t.resWires = (if k ≠ cks c dh dl r4 r5 r6 r7 then ⟨false, 3, 0⟩
        else if c ≠ 0x86 then ⟨false, 4, 0⟩ else ⟨true, 0, dh ++ dl⟩)) ∧
  (∀ (f : Frame) (len : BitVec 4) (s : State), s.rspOp = some 0x86 →
    ∃ t, applyAct (.receive f len) s = .next t ∧
      t.resWires = (if len.toNat < 9 then ⟨false, 1, 0⟩
        else if f.b0 ≠ 0xFF then ⟨false, 2, 0⟩
        else if f.b8 ≠ cks f.b1 f.b2 f.b3 f.b4 f.b5 f.b6 f.b7 then ⟨false, 3, 0⟩
        else if f.b1 ≠ 0x86 then ⟨false, 4, 0⟩
        else ⟨true, 0, BitVec.ofNat 16 (f.b2.toNat * 256 + f.b3.toNat)⟩)) ∧
  resWiresOf (response 0x86 ⟨0xFF, 0x86, 0x02, 0x5C, 0, 0, 0, 0, 0x1C⟩ 9) = ⟨true, 0, 604⟩ ∧
  (∀ (op : Byte) (f : Frame) (len : BitVec 4), response op f len = .err .unexpectedCommand → op = 0x86)

/-- 43_commands.md R81, R83, R85, R87, with `rsp_op` one of the four other codes driven: the reply is acknowledged exactly
when the frame is valid, whatever code it echoes and whatever data it carries. -/
def Obligations.OtherResponsesAreAcknowledged : Prop :=
  (∀ (op : Byte) (f : Frame) (len : BitVec 4) (s : State), op = 0x87 ∨ op = 0x88 ∨ op = 0x79 ∨ op = 0x99 →
    s.rspOp = some op →
    ∃ t, applyAct (.receive f len) s = .next t ∧
      t.resOutcome = some (if len.toNat < 9 then .err .badLength
        else if f.b0 ≠ 0xFF then .err .badStart
        else if f.b8 ≠ cks f.b1 f.b2 f.b3 f.b4 f.b5 f.b6 f.b7 then .err .checksumMismatch
        else .ok .ack) ∧
      t.resWires.ppm = 0 ∧ t.resWires.err ≠ 4) ∧
  response 0x87 ⟨0xFF, 0x87, 0, 0, 0, 0, 0, 0, 0x79⟩ 9 = .ok .ack ∧
  response 0x87 ⟨0xFF, 0x86, 0x02, 0x5C, 0, 0, 0, 0, 0x1C⟩ 9 = .ok .ack ∧
  response 0x88 ⟨0xFF, 0x88, 0, 0, 0, 0, 0, 0, 0x78⟩ 9 = .ok .ack ∧
  response 0x79 ⟨0xFF, 0x79, 0x01, 0, 0, 0, 0, 0, 0x86⟩ 9 = .ok .ack ∧
  response 0x99 ⟨0xFF, 0x99, 0x01, 0, 0, 0, 0, 0, 0x66⟩ 9 = .ok .ack

/-- 42_decoder.md sections 1 to 4, 30_encoding.md section 6: both format R rows complete in EVERY state, driven or not;
PARSE reports the row's own fields or ChecksumMismatch, DEC adds the echo check the host drives and is unspecified while
`exp_en` is not driven, and only `rx_frame`, `rx_len` and the list of outcomes change. That a row leaves `rsp_op`, `exp_en`
and `exp_cmd` to the host is log entry 9; that `exp_cmd` need not be driven when `exp_en` is 0 is log entry 2. -/
def Obligations.ResponseRowsParseTheirBytes : Prop :=
  (∀ (dh dl r4 r5 r6 r7 k : Byte) (s : State),
    ∃ t, exec (.rspReadCo2 dh dl r4 r5 r6 r7 k) s = .next t ∧
      t = { s with rxFrame := some ⟨0xFF, 0x86, dh, dl, r4, r5, r6, r7, k⟩, rxLen := some 9,
                   outcomes := s.outcomes ++ [.received t.parseOutcome t.decOutcome t.resOutcome] } ∧
      t.parseOutcome = some (if k = cks 0x86 dh dl r4 r5 r6 r7 then .ok ⟨0x86, dh, dl⟩ else .err .checksumMismatch) ∧
      (s.expEn = none → t.decOutcome = none) ∧
      (s.expEn = some false → t.decOutcome =
        some (if k = cks 0x86 dh dl r4 r5 r6 r7 then .ok ⟨0x86, dh, dl, dh ++ dl⟩ else .err .checksumMismatch)) ∧
      (∀ e, s.expEn = some true → s.expCmd = some e → t.decOutcome =
        some (if k ≠ cks 0x86 dh dl r4 r5 r6 r7 then .err .checksumMismatch
          else if 0x86 ≠ e then .err .unexpectedCommand else .ok ⟨0x86, dh, dl, dh ++ dl⟩))) ∧
  (∀ (c dh dl r4 r5 r6 r7 k : Byte) (s : State),
    ∃ t, exec (.rspAny c dh dl r4 r5 r6 r7 k) s = .next t ∧
      t = { s with rxFrame := some ⟨0xFF, c, dh, dl, r4, r5, r6, r7, k⟩, rxLen := some 9,
                   outcomes := s.outcomes ++ [.received t.parseOutcome t.decOutcome t.resOutcome] } ∧
      t.parseOutcome = some (if k = cks c dh dl r4 r5 r6 r7 then .ok ⟨c, dh, dl⟩ else .err .checksumMismatch) ∧
      (s.expEn = none → t.decOutcome = none) ∧
      (s.expEn = some false → t.decOutcome =
        some (if k = cks c dh dl r4 r5 r6 r7 then .ok ⟨c, dh, dl, dh ++ dl⟩ else .err .checksumMismatch)) ∧
      (∀ e, s.expEn = some true → s.expCmd = some e → t.decOutcome =
        some (if k ≠ cks c dh dl r4 r5 r6 r7 then .err .checksumMismatch
          else if c ≠ e then .err .unexpectedCommand else .ok ⟨c, dh, dl, dh ++ dl⟩)))

/-- 70_reset_and_hazards.md section 3 (the duty is the host's; this is what its breach gives): under `rsp_op` 0x87 the
reply to a READ_CO2 is acknowledged and its concentration dropped; under 0x86 a good acknowledgement echoing 0x87 is an
UnexpectedCommand. -/
def Obligations.WrongPairingGivesTheWrongVerdict : Prop :=
  ∀ dh dl r4 r5 r6 r7 : Byte,
    resWiresOf (response 0x87 ⟨0xFF, 0x86, dh, dl, r4, r5, r6, r7, cks 0x86 dh dl r4 r5 r6 r7⟩ 9) = ⟨true, 0, 0⟩ ∧
    response 0x86 ⟨0xFF, 0x87, dh, dl, r4, r5, r6, r7, cks 0x87 dh dl r4 r5 r6 r7⟩ 9 = .err .unexpectedCommand

/-- 42_decoder.md section 4 (R73 (c) is derived): every frame ENC emits passes PARSE when looped back, with command code
0x01, and the echo check for 0x86 refuses it. -/
def Obligations.LoopedBackCommandsPassParse : Prop :=
  ∀ (cmd : Byte) (plen : BitVec 3) (p : Payload) (len : BitVec 4), 9 ≤ len.toNat →
    parse (build cmd plen p) len = .ok ⟨0x01, cmd, (padded plen p).p0⟩ ∧
    response 0x86 (build cmd plen p) len = .err .unexpectedCommand ∧
    response 0x87 (build cmd plen p) len = .ok .ack

/-- 95_test_vectors.md section 5, 90_conflicts.md C6: PARSE of a command laid out as a response recovers the code and the
first two payload bytes (the layout is the spec's test-only helper, decision D23). -/
def Obligations.EchoedCommandRoundTrip : Prop :=
  ∀ (cmd : Byte) (plen : BitVec 3) (p : Payload),
    let f := build cmd plen p
    parse (echoAsResponse f.b2 f.b3 f.b4 f.b5 f.b6) 9 = .ok ⟨cmd, (padded plen p).p0, (padded plen p).p1⟩

/-! ## Frames, ignored inputs, independence -/

/-- 10_state.md R12 (the units share nothing), stated of the rows: what a row leaves unchanged. A command row of the request
half changes no port of another unit and only the operand port its command reads; CMD_RAW changes only the raw ENC ports; a
response row changes only `rx_frame` and `rx_len`. No row touches the host's list. -/
def Obligations.InstructionFrames : Prop :=
  ∀ (i : Instr) (s t : State), exec i s = .next t →
    t.cksB = s.cksB ∧ t.rspOp = s.rspOp ∧ t.expEn = s.expEn ∧ t.expCmd = s.expCmd ∧ t.host = s.host ∧
    t.freeIdx = s.freeIdx ∧ t.cksOutcome = s.cksOutcome ∧
    (i.format = .response →
      t.encCmd = s.encCmd ∧ t.encPlen = s.encPlen ∧ t.encP = s.encP ∧ t.cmdOp = s.cmdOp ∧ t.cmdArg = s.cmdArg ∧
      t.cmdFlag = s.cmdFlag ∧ t.reqOutcome = s.reqOutcome ∧ t.encOutcome = s.encOutcome) ∧
    (i.format = .command → t.rxFrame = s.rxFrame ∧ t.rxLen = s.rxLen ∧ t.parseOutcome = s.parseOutcome ∧
      t.decOutcome = s.decOutcome ∧ t.resOutcome = s.resOutcome) ∧
    (i.row = .cmdRaw → t.cmdOp = s.cmdOp ∧ t.cmdArg = s.cmdArg ∧ t.cmdFlag = s.cmdFlag ∧ t.reqOutcome = s.reqOutcome) ∧
    (i.row ≠ .cmdRaw → t.encCmd = s.encCmd ∧ t.encPlen = s.encPlen ∧ t.encP = s.encP ∧ t.encOutcome = s.encOutcome) ∧
    (i.row ≠ .calSpan → i.row ≠ .setRange2000 → i.row ≠ .setRange5000 → t.cmdArg = s.cmdArg) ∧
    (i.row ≠ .setAbcOn → i.row ≠ .setAbcOff → t.cmdFlag = s.cmdFlag) ∧
    (∃ x, t.outcomes = s.outcomes ++ [x])

/-- 10_state.md R19: an ignored input has no effect on any output. -/
def Obligations.IgnoredInputsHaveNoEffect : Prop :=
  (∀ (cmd : Byte) (plen : BitVec 3) (p p' : Payload),
    (0 < plen.toNat → p.p0 = p'.p0) → (1 < plen.toNat → p.p1 = p'.p1) → (2 < plen.toNat → p.p2 = p'.p2) →
    (3 < plen.toNat → p.p3 = p'.p3) → build cmd plen p = build cmd plen p') ∧
  (∀ (f : Frame) (len : BitVec 4) (c c' : Byte), dec f len false c = dec f len false c') ∧
  (∀ (f f' : Frame) (len : BitVec 4) (en : Bool) (c op : Byte), len.toNat < 9 →
    dec f len en c = dec f' len en c ∧ response op f len = response op f' len) ∧
  (∀ (op : Byte) (arg arg' : Half) (flag : Bool), op = 0x86 ∨ op = 0x87 ∨ op = 0x79 →
    request op arg flag = request op arg' flag) ∧
  (∀ (op : Byte) (arg : Half) (flag flag' : Bool), op ≠ 0x79 → request op arg flag = request op arg flag') ∧
  (∀ (op : Byte) (arg arg' : Half) (flag flag' : Bool), isCommandCode op = false →
    request op arg flag = request op arg' flag')

/-- 10_state.md R10: every output is a function of its own unit's present inputs and of nothing else. -/
def Obligations.OutputsAreFunctionsOfPresentInputs : Prop :=
  ∀ s s' : State,
    (s.cksB = s'.cksB → s.cksOutcome = s'.cksOutcome) ∧
    (s.encCmd = s'.encCmd → s.encPlen = s'.encPlen → s.encP = s'.encP → s.encOutcome = s'.encOutcome) ∧
    (s.rxFrame = s'.rxFrame → s.rxLen = s'.rxLen → s.expEn = s'.expEn → s.expCmd = s'.expCmd →
      s.decOutcome = s'.decOutcome) ∧
    (s.cmdOp = s'.cmdOp → s.cmdArg = s'.cmdArg → s.cmdFlag = s'.cmdFlag → s.reqOutcome = s'.reqOutcome) ∧
    (s.rspOp = s'.rspOp → s.rxFrame = s'.rxFrame → s.rxLen = s'.rxLen → s.resOutcome = s'.resOutcome) ∧
    (∀ f len en c, s.rxFrame = some f → s.rxLen = some len → s.expEn = some en → s.expCmd = some c →
      s.decOutcome = some (dec f len en c)) ∧
    (∀ op arg flag, s.cmdOp = some op → s.cmdArg = some arg → s.cmdFlag = some flag →
      s.reqOutcome = some (request op arg flag)) ∧
    (∀ f len op, s.rxFrame = some f → s.rxLen = some len → s.rspOp = some op →
      s.resOutcome = some (response op f len))

/-- 60_exceptions.md section 5, 10_state.md section 1: a run does not depend on the outcomes before it, errors among
them. Putting any outcomes in front changes nothing of a run of any length but that they stay in front. -/
def Obligations.RunsDoNotDependOnEarlierOutcomes : Prop :=
  ∀ (n : Nat) (before : List Sampled) (s : State),
    core.run n { s with outcomes := before ++ s.outcomes } =
      match core.run n s with
      | .next t => .next { t with outcomes := before ++ t.outcomes }
      | .fault r => .fault r
      | .refused r => .refused r

/-- 70_reset_and_hazards.md section 1, 10_state.md section 10: at reset no input is driven, so every outcome is
unspecified, and nothing is pending. (The empty list of the host's acts is the model's choice, log entry 5.) -/
def Obligations.ResetDrivesNoInput : Prop :=
  let s := State.reset
  s.cksB = none ∧ s.encCmd = none ∧ s.encPlen = none ∧ s.encP = none ∧ s.rxFrame = none ∧ s.rxLen = none ∧
  s.expEn = none ∧ s.expCmd = none ∧ s.cmdOp = none ∧ s.cmdArg = none ∧ s.cmdFlag = none ∧ s.rspOp = none ∧
  s.cksOutcome = none ∧ s.encOutcome = none ∧ s.decOutcome = none ∧ s.reqOutcome = none ∧ s.resOutcome = none ∧
  step s = .fault .endOfRun

/-! ## Encoding -/

/-- 95_test_vectors.md sections 3, 4, 6, 7, opcode_table.json: words written out from the encodings decode to the rows they
stand for. That a bare word starting FF 01 is read as a command and not as a response is log entry 10. -/
def Obligations.WrittenOutWordsDecode : Prop :=
  decodeTableWord 72 0xFF0186000000000079 = some (.readCo2 0x79) ∧
  decodeTableWord 72 0xFF018807D0000000A0 = some (.calSpan 2000 0xA0) ∧
  decodeTableWord 72 0xFF0179A000000000E6 = some (.setAbcOn 0xE6) ∧
  decodeTableWord 72 0xFF01AB01020300004E = some (.cmdRaw 0xAB 0x01 0x02 0x03 0x00 0x4E) ∧
  decodeTableWord 72 0xFF86019A430000128A = some (.rspReadCo2 0x01 0x9A 0x43 0x00 0x00 0x12 0x8A) ∧
  decodeTableWord 72 0xFF9901000000000066 = some (.rspAny 0x99 0x01 0x00 0x00 0x00 0x00 0x00 0x66)

/-- 30_encoding.md: decoding an encoded instruction gives it back, every operand and the checksum byte included, with
whatever follows left over. The premise says only that the instruction is the row R42's order names (a generic row does
not stand for a specific row's frame); a wrong checksum is not shut out. -/
def Obligations.DecodeInvertsEncode : Prop :=
  ∀ (i : Instr) (rest : List Byte), i.canonical = true → decode i.format (encode i ++ rest) = .ok (i, rest)

/-- 30_encoding.md: what is decoded encodes to the bytes it was decoded from, so no bit of a frame is dropped and no two
frames are one instruction. -/
def Obligations.EncodeInvertsDecode : Prop :=
  ∀ (fmt : Format) (bytes rest : List Byte) (i : Instr), decode fmt bytes = .ok (i, rest) →
    encode i ++ rest = bytes ∧ i.canonical = true ∧ i.format = fmt

/-- 30_encoding.md sections 1 and 6: the byte-wise decoder names exactly the first row of the frame's format whose mask
and match hit the 72-bit packing. -/
def Obligations.DecoderAgreesWithTheOpcodeTable : Prop :=
  ∀ (fmt : Format) (f : Frame),
    classify fmt f.packed =
      match decode fmt f.toList with
      | .ok (i, _) => some i.row
      | .error _ => none

/-- 30_encoding.md section 6: a response frame has no row exactly when its byte 0 is not 0xFF; every frame the request
half emits falls under a specific row, a CAL_SPAN only with a target of at least 1000. -/
def Obligations.CommandLayerEmitsOnlySpecificRows : Prop :=
  (∀ f : Frame, classify .response f.packed = none ↔ f.b0 ≠ 0xFF) ∧
  (∀ (op : Byte) (arg : Half) (flag : Bool) (f : Frame), request op arg flag = .ok f →
    ∃ i, decode .command f.toList = .ok (i, []) ∧ i.wellFormed = true ∧ i.row ≠ .cmdRaw ∧
      (∀ v k, i = .calSpan v k → 1000 ≤ v.toNat ∧ v = arg))

/-- 30_encoding.md section 1 (R32), 20_memory.md section 2 (R22): a 16-bit value is its high byte followed by its low byte,
and a frame's 72-bit packing is the number its bytes write in base 256, byte 0 most significant; packing loses nothing. -/
def Obligations.BytesAndPackingAreBigEndian : Prop :=
  (∀ v : Half, (hiByte v).toNat = v.toNat / 256 ∧ (loByte v).toNat = v.toNat % 256 ∧ joinBytes (hiByte v) (loByte v) = v) ∧
  (∀ h l : Byte, hiByte (joinBytes h l) = h ∧ loByte (joinBytes h l) = l) ∧
  (∀ f : Frame, f.packed.toNat = f.b0.toNat * 256 ^ 8 + f.b1.toNat * 256 ^ 7 + f.b2.toNat * 256 ^ 6 +
    f.b3.toNat * 256 ^ 5 + f.b4.toNat * 256 ^ 4 + f.b5.toNat * 256 ^ 3 + f.b6.toNat * 256 ^ 2 + f.b7.toNat * 256 +
    f.b8.toNat) ∧
  (∀ f : Frame, Frame.ofPacked f.packed = f) ∧
  (∀ w : BitVec 72, (Frame.ofPacked w).packed = w)

/-! ## Steps and runs -/

/-- 70_reset_and_hazards.md section 5, 30_encoding.md section 6: a step runs the decoded instruction. The host's next
frame, read in the format it is presented in, is executed on the state with that presentation taken off the list and the
free values moved on. The host's list (log entry 5), an operation applied by nine bytes (12), the format by presentation
(10) and the counter of free values (3) are the model's choices. -/
def Obligations.StepRunsTheDecodedInstruction : Prop :=
  (∀ (s : State) (f : Frame) (rest : List HostAct) (i : Instr), s.host = .command f :: rest →
    decode .command f.toList = .ok (i, []) → step s = exec i { s with host := rest, freeIdx := s.freeIdx + 1 }) ∧
  (∀ (s : State) (f : Frame) (rest : List HostAct) (i : Instr), s.host = .receive f 9 :: rest →
    decode .response f.toList = .ok (i, []) → step s = exec i { s with host := rest, freeIdx := s.freeIdx + 1 })

/-- 70_reset_and_hazards.md section 5, 30_encoding.md section 6: placing a table word makes the very next step run the
instruction that the decoder reads from it. The list it is placed on (log entry 5), how a bare word is read (10) and the
counter of free values (3) are the model's choices. -/
def Obligations.PlacedWordsRunNext : Prop :=
  ∀ (s : State) (w : Nat) (i : Instr), decodeTableWord 72 w = some i →
    step (s.withFetchWord 72 w) = exec i { s with freeIdx := s.freeIdx + 1 }

/-- 42_decoder.md, 70_reset_and_hazards.md R122: presenting received bytes drives `rx_frame` and `rx_len` and samples both
units, for every nine lanes and every length, named in the table or not. -/
def Obligations.AnyReceivedBytesAreApplied : Prop :=
  ∀ (f : Frame) (len : BitVec 4) (s : State), ∃ t, applyAct (.receive f len) s = .next t ∧
    t = { s with rxFrame := some f, rxLen := some len,
                 outcomes := s.outcomes ++ [.received (some (parse f len)) t.decOutcome t.resOutcome] }

/-- 70_reset_and_hazards.md section 5: a step stops only where the host's list has ended, or where the host applies an
operation by bytes that are no command frame; it never stops on an instruction. (Both stops are the model's own, log
entries 5 and 12.) -/
def Obligations.StepStopsOnlyAtTheEndOrOnNoCommand : Prop :=
  ∀ s : State,
    (∀ r, step s = .fault r ↔ s.host = []) ∧
    (∀ r, step s = .refused r ↔
      ∃ f rest e, s.host = .command f :: rest ∧ decode .command f.toList = .error e ∧ r = .notACommandFrame e) ∧
    ((∃ t, step s = .next t) ↔
      ∃ a rest, s.host = a :: rest ∧ ∀ f, a = .command f → ∃ i, decode .command f.toList = .ok (i, []))

/-- 41_encoder.md, 42_decoder.md, 43_commands.md: the invariant that every outcome of a run is one the rules allow (every
emitted frame well formed, no error but a unit's own, no reply trusted that PARSE rejected) is kept by every step. -/
def Obligations.StepKeepsTheRunLegal : Prop :=
  ∀ s t : State, LegalRun s → step s = .next t → LegalRun t

/-- The invariant holds at reset. -/
def Obligations.ResetIsLegal : Prop := LegalRun State.reset

/-- 43_commands.md R91: a transaction is REQUEST, then the link, then RESPONSE. A refused request sends nothing, a
transport failure is surfaced unchanged, a delivered reply goes through RESPONSE; the command counts as sent once the write
succeeds. -/
def Obligations.TransactionIsRequestLinkResponse : Prop :=
  ∀ (op : Byte) (arg : Half) (flag : Bool),
    (∀ e link, request op arg flag = .err e →
      transaction op arg flag link = .refused .invalidArgument ∧ sentToLink op arg flag link = false) ∧
    (∀ fr, request op arg flag = .ok fr →
      (∀ e, transaction op arg flag (.writeFailed e) = .transport e ∧
        sentToLink op arg flag (.writeFailed e) = false) ∧
      (∀ e, transaction op arg flag (.readFailed e) = .transport e ∧ sentToLink op arg flag (.readFailed e) = true) ∧
      (∀ f len, transaction op arg flag (.delivered f len) = .answered (response op f len) ∧
        sentToLink op arg flag (.delivered f len) = true))

/-- 43_commands.md section 8, 70_reset_and_hazards.md section 5: three steps of the machine (request, pairing, reply), from
any state and in front of any further acts, produce exactly the outcomes the transaction is made of. -/
def Obligations.RunOfATransactionGivesItsResult : Prop :=
  ∀ (s : State) (op : Byte) (arg : Half) (flag : Bool) (f : Frame) (len : BitVec 4) (rest : List HostAct),
    s.host = transactionActs op arg flag f len ++ rest →
    ∃ t d, core.run 3 s = .next t ∧ t.host = rest ∧
      t.outcomes = s.outcomes ++
        [.request (some (request op arg flag)), .received (some (parse f len)) d (some (response op f len))] ∧
      transaction op arg flag (.delivered f len) =
        (match request op arg flag with
        | .err e => .refused e
        | .ok _ => .answered (response op f len))

/-- 70_reset_and_hazards.md section 3: a host that keeps its duties has at most one transaction outstanding at every
moment, and sends only frames the request half emitted for one of the five commands. (The check on the host's log is the
model's, log entry 16.) -/
def Obligations.DutifulHostsHaveOneTransactionOutstanding : Prop :=
  (∀ (early late : List HostEvent), dutiful Session.idle (early ++ late) = true →
    resolved early ≤ sends early ∧ sends early ≤ resolved early + 1) ∧
  (∀ (early late : List HostEvent), dutiful Session.idle (early ++ .send :: late) = true →
    ∃ op arg flag f, HostEvent.request op arg flag ∈ early ∧ request op arg flag = .ok f ∧
      goodRequestFrame f = true)

/-! ## Driving ports -/

/-- 43_commands.md R78, R80, R82, R84, R86: the request half with all three inputs driven, in every state: the frame or the
refusal of each command, a refused one sending nothing, and what else changes. -/
def Obligations.RequestsFollowTheirRules : Prop :=
  ∀ (s : State) (op : Byte) (arg : Half) (flag : Bool),
    let hi : Byte := BitVec.ofNat 8 (arg.toNat / 256)
    let lo : Byte := BitVec.ofNat 8 (arg.toNat % 256)
    let refused : ReqWires := ⟨false, 5, ⟨0, 0, 0, 0, 0, 0, 0, 0, 0⟩⟩
    ∃ t, applyAct (.request op arg flag) s = .next t ∧
      t = { s with cmdOp := some op, cmdArg := some arg, cmdFlag := some flag,
                   outcomes := s.outcomes ++ [.request t.reqOutcome] } ∧
      (op = 0x86 → t.reqWires = ⟨true, 0, ⟨0xFF, 0x01, 0x86, 0, 0, 0, 0, 0, 0x79⟩⟩) ∧
      (op = 0x87 → t.reqWires = ⟨true, 0, ⟨0xFF, 0x01, 0x87, 0, 0, 0, 0, 0, 0x78⟩⟩) ∧
      (op = 0x88 → arg.toNat < 1000 → t.reqWires = refused ∧ ∀ link, sentToLink op arg flag link = false) ∧
      (op = 0x88 → 1000 ≤ arg.toNat →
        t.reqWires = ⟨true, 0, ⟨0xFF, 0x01, 0x88, hi, lo, 0, 0, 0, 0x77 - hi - lo⟩⟩) ∧
      (op = 0x79 → flag = true → t.reqWires = ⟨true, 0, ⟨0xFF, 0x01, 0x79, 0xA0, 0, 0, 0, 0, 0xE6⟩⟩) ∧
      (op = 0x79 → flag = false → t.reqWires = ⟨true, 0, ⟨0xFF, 0x01, 0x79, 0x00, 0, 0, 0, 0, 0x86⟩⟩) ∧
      (op = 0x99 → arg = 2000 → t.reqWires = ⟨true, 0, ⟨0xFF, 0x01, 0x99, 0x07, 0xD0, 0, 0, 0, 0x8F⟩⟩) ∧
      (op = 0x99 → arg = 5000 → t.reqWires = ⟨true, 0, ⟨0xFF, 0x01, 0x99, 0x13, 0x88, 0, 0, 0, 0xCB⟩⟩) ∧
      (op = 0x99 → arg ≠ 2000 → arg ≠ 5000 → t.reqWires = refused ∧ ∀ link, sentToLink op arg flag link = false)

/-- 70_reset_and_hazards.md section 1, 10_state.md section 11: a unit's outcome is specified exactly while each of its inputs
is driven that no rule says is ignored, and its wires are free values while it is not. Which inputs may stay undriven is
the model's reading, log entry 2; that the wires are then free values of one counter is log entry 4. -/
def Obligations.OutputsAreSpecifiedExactlyWhileTheirInputsAreDriven : Prop :=
  ∀ s : State,
    let rxDriven : Prop := ∃ len, s.rxLen = some len ∧ (9 ≤ len.toNat → s.rxFrame ≠ none)
    (s.cksOutcome ≠ none ↔ s.cksB ≠ none) ∧
    (s.encOutcome ≠ none ↔ s.encCmd ≠ none ∧ ∃ plen, s.encPlen = some plen ∧ (plen ≠ 0 → s.encP ≠ none)) ∧
    (s.decOutcome ≠ none ↔ rxDriven ∧ ∃ en, s.expEn = some en ∧ (en = true → s.expCmd ≠ none)) ∧
    (s.reqOutcome ≠ none ↔ ∃ op, s.cmdOp = some op ∧ (op = 0x88 ∨ op = 0x99 → s.cmdArg ≠ none) ∧
      (op = 0x79 → s.cmdFlag ≠ none)) ∧
    (s.resOutcome ≠ none ↔ ∃ op, s.rspOp = some op ∧
      (op = 0x86 ∨ op = 0x87 ∨ op = 0x88 ∨ op = 0x79 ∨ op = 0x99 → rxDriven)) ∧
    (s.cksOutcome = none → s.cksOut = Config.floatingCksOut s.freeIdx) ∧
    (s.encOutcome = none → s.txFrame = Config.floatingTxFrame s.freeIdx) ∧
    (s.decOutcome = none → s.decWires =
      ⟨Config.floatingDecOk s.freeIdx, Config.floatingDecErr s.freeIdx, Config.floatingDecCmd s.freeIdx,
        Config.floatingDecDh s.freeIdx, Config.floatingDecDl s.freeIdx, Config.floatingDecPpm s.freeIdx⟩) ∧
    (s.reqOutcome = none → s.reqWires =
      ⟨Config.floatingReqOk s.freeIdx, Config.floatingReqErr s.freeIdx, Config.floatingCmdTxFrame s.freeIdx⟩) ∧
    (s.resOutcome = none → s.resWires =
      ⟨Config.floatingResOk s.freeIdx, Config.floatingResErr s.freeIdx, Config.floatingResPpm s.freeIdx⟩)

/-- 10_state.md section 11, 42_decoder.md section 1, 43_commands.md section 7: what the units answer while an ignored input
is not driven: a short input whose lanes may be undriven, and an operation code outside the five with `rx_frame` and `rx_len`
undriven. That these outcomes are specified is the model's reading, log entry 2. -/
def Obligations.IgnoredInputsNeedNotBeDriven : Prop :=
  ∀ s : State,
    (∀ len : BitVec 4, s.rxLen = some len → len.toNat < 9 → s.expEn = some false ∨ (s.expEn = some true ∧ s.expCmd ≠ none) →
      s.decOutcome = some (.err .badLength) ∧ s.decWires = ⟨false, 1, 0, 0, 0, 0⟩) ∧
    (∀ (f : Frame) (len : BitVec 4), s.rxFrame = some f → s.rxLen = some len → s.expEn = some false →
      ∀ c, s.decOutcome = some (dec f len false c)) ∧
    (∀ (len : BitVec 4) (op : Byte), s.rxLen = some len → len.toNat < 9 → s.rspOp = some op →
      op = 0x86 ∨ op = 0x87 ∨ op = 0x88 ∨ op = 0x79 ∨ op = 0x99 →
      s.resOutcome = some (.err .badLength) ∧ s.resWires = ⟨false, 1, 0⟩) ∧
    (∀ op : Byte, s.rspOp = some op → op ≠ 0x86 → op ≠ 0x87 → op ≠ 0x88 → op ≠ 0x79 → op ≠ 0x99 →
      s.resOutcome = some (.err .invalidArgument) ∧ s.resWires = ⟨false, 5, 0⟩) ∧
    (∀ (op : Byte), s.cmdOp = some op → op ≠ 0x88 → op ≠ 0x99 → op ≠ 0x79 →
      ∀ arg flag, s.reqOutcome = some (request op arg flag)) ∧
    (∀ cmd : Byte, s.encCmd = some cmd → s.encPlen = some 0 → ∀ p, s.encOutcome = some (build cmd 0 p))

/-- 10_state.md sections 4 and 5: driving `exp_en` and `exp_cmd`, or `rsp_op`, drives exactly these ports and samples
nothing; DEC's, or the response half's, outcome of the bytes present is then the one for the value driven. -/
def Obligations.DrivingTheExpectationChangesOnlyItsPorts : Prop :=
  (∀ (en : Bool) (c : Byte) (s : State), ∃ t, applyAct (.expect en c) s = .next t ∧
    t = { s with expEn := some en, expCmd := some c } ∧
    t.parseOutcome = s.parseOutcome ∧ t.resOutcome = s.resOutcome ∧
    (∀ f len, s.rxFrame = some f → s.rxLen = some len → t.decOutcome = some (dec f len en c))) ∧
  (∀ (op : Byte) (s : State), ∃ t, applyAct (.respondTo op) s = .next t ∧
    t = { s with rspOp := some op } ∧
    t.parseOutcome = s.parseOutcome ∧ t.decOutcome = s.decOutcome ∧
    (∀ f len, s.rxFrame = some f → s.rxLen = some len → t.resOutcome = some (response op f len)))

end
end

