-- ==== Sys2Proof/Laws/Checksum.lean ====
section
/-! SUPPORT. What CKS and VERIFY8 compute (40_checksum.md R45, R49). -/

namespace Sys2Proof.Machine

variable (b1 b2 b3 b4 b5 b6 b7 : Byte)

/-- The sum of seven bytes is at most 1785 (40_checksum.md R45). -/
theorem byteSum_le : byteSum b1 b2 b3 b4 b5 b6 b7 ≤ 1785 := by
  unfold byteSum
  omega

/-- CKS as a number. -/
theorem cks_toNat : (cks b1 b2 b3 b4 b5 b6 b7).toNat = (256 - byteSum b1 b2 b3 b4 b5 b6 b7 % 256) % 256 := by
  simp only [cks, BitVec.toNat_ofNat]
  omega

/-- A byte is a checksum exactly when it fills the sum up to a multiple of 256. -/
theorem eq_cks_iff (b8 : Byte) :
    b8 = cks b1 b2 b3 b4 b5 b6 b7 ↔ (byteSum b1 b2 b3 b4 b5 b6 b7 + b8.toNat) % 256 = 0 := by
  rw [← BitVec.toNat_inj, cks_toNat]
  omega

/-- VERIFY8 as a sum. -/
theorem verify8_iff (b8 : Byte) :
    verify8 b1 b2 b3 b4 b5 b6 b7 b8 = true ↔ (byteSum b1 b2 b3 b4 b5 b6 b7 + b8.toNat) % 256 = 0 := by
  rw [← eq_cks_iff, verify8, beq_iff_eq]

/-- A frame's checksum is valid exactly when byte 8 is CKS of bytes 1 to 7. -/
theorem validChecksum_iff (f : Frame) : validChecksum f = true ↔ f.b8 = frameCks f := by
  rw [validChecksum, verify8, beq_iff_eq, frameCks]

end Sys2Proof.Machine
end

