-- ==== Sys2Proof/Laws/Decode.lean ====
section
/-! SUPPORT. The 72-bit packing taken apart lane by lane, and the encoder's frames. -/

namespace Sys2Proof

@[simp] theorem commandFrame_toList (c p0 p1 p2 p3 k : Byte) :
    (commandFrame c p0 p1 p2 p3 k).toList = [0xFF, 0x01, c, p0, p1, p2, p3, 0x00, k] := rfl

@[simp] theorem responseFrame_toList (c dh dl r4 r5 r6 r7 k : Byte) :
    (responseFrame c dh dl r4 r5 r6 r7 k).toList = [0xFF, c, dh, dl, r4, r5, r6, r7, k] := rfl

/-- Two appended words are equal exactly when both halves are. -/
theorem append_inj {m n : Nat} (a b : BitVec m) (c d : BitVec n) : a ++ c = b ++ d ↔ a = b ∧ c = d := by
  constructor
  · intro h
    have hh := congrArg (fun w => w.extractLsb' n m) h
    have hl := congrArg (fun w => w.extractLsb' 0 n) h
    refine ⟨?_, ?_⟩
    · apply BitVec.eq_of_getLsbD_eq
      intro i hi
      have := congrArg (fun w => w.getLsbD i) hh
      simpa [BitVec.getLsbD_extractLsb', BitVec.getLsbD_append, hi] using this
    · apply BitVec.eq_of_getLsbD_eq
      intro i hi
      have := congrArg (fun w => w.getLsbD i) hl
      simpa [BitVec.getLsbD_extractLsb', BitVec.getLsbD_append, hi] using this
  · rintro ⟨rfl, rfl⟩; rfl

/-- Packing loses nothing (30_encoding.md R32). -/
theorem Frame.packed_inj (f g : Frame) : f.packed = g.packed ↔ f = g := by
  rw [Frame.ext_iff]
  exact (append_inj _ _ _ _).trans <| and_congr_right' <| (append_inj _ _ _ _).trans <| and_congr_right' <|
    (append_inj _ _ _ _).trans <| and_congr_right' <| (append_inj _ _ _ _).trans <| and_congr_right' <|
    (append_inj _ _ _ _).trans <| and_congr_right' <| (append_inj _ _ _ _).trans <| and_congr_right' <|
    (append_inj _ _ _ _).trans <| and_congr_right' <| append_inj _ _ _ _

/-- Masking two appended words masks both halves. -/
theorem append_and {m n : Nat} (a a' : BitVec m) {b b' c : BitVec n} (h : b &&& b' = c) :
    (a ++ b) &&& (a' ++ b') = (a &&& a') ++ c := by
  rw [BitVec.and_append, h]

/-- Masking a packed frame masks its lanes. -/
theorem Frame.packed_and (f g : Frame) :
    f.packed &&& g.packed =
      Frame.packed ⟨f.b0 &&& g.b0, f.b1 &&& g.b1, f.b2 &&& g.b2, f.b3 &&& g.b3, f.b4 &&& g.b4, f.b5 &&& g.b5,
        f.b6 &&& g.b6, f.b7 &&& g.b7, f.b8 &&& g.b8⟩ :=
  append_and _ _ <| append_and _ _ <| append_and _ _ <| append_and _ _ <| append_and _ _ <| append_and _ _ <|
    append_and _ _ <| append_and _ _ rfl

/-- A row whose mask and match are packed frames hits a packed frame lane by lane (30_encoding.md R32). -/
theorem TableRow.hits_iff (r : TableRow) (m b f : Frame) (hm : r.mask = m.packed) (hb : r.bits = b.packed) :
    r.hits f.packed = true ↔
      f.b0 &&& m.b0 = b.b0 ∧ f.b1 &&& m.b1 = b.b1 ∧ f.b2 &&& m.b2 = b.b2 ∧ f.b3 &&& m.b3 = b.b3 ∧
      f.b4 &&& m.b4 = b.b4 ∧ f.b5 &&& m.b5 = b.b5 ∧ f.b6 &&& m.b6 = b.b6 ∧ f.b7 &&& m.b7 = b.b7 ∧
      f.b8 &&& m.b8 = b.b8 := by
  rw [TableRow.hits, beq_iff_eq, hm, hb, Frame.packed_and, Frame.packed_inj, Frame.ext_iff]

/-! ### the rows, lane by lane -/

theorem and_ones (x : Byte) : x &&& 0xFF = x := BitVec.and_allOnes
theorem and_zeros (x : Byte) : x &&& 0 = 0 := BitVec.and_zero

theorem readCo2Row_hits (f : Frame) :
    readCo2Row.hits f.packed = true ↔
      f.b0 = 0xFF ∧ f.b1 = 0x01 ∧ f.b2 = 0x86 ∧ f.b3 = 0x00 ∧ f.b4 = 0x00 ∧ f.b5 = 0x00 ∧ f.b6 = 0x00 ∧ f.b7 = 0x00 := by
  rw [TableRow.hits_iff readCo2Row ⟨0xFF, 0xFF, 0xFF, 0xFF, 0xFF, 0xFF, 0xFF, 0xFF, 0x00⟩ ⟨0xFF, 0x01, 0x86, 0x00, 0x00, 0x00, 0x00, 0x00, 0x00⟩ f rfl rfl]
  simp only [and_ones, and_zeros, and_true]

theorem calZeroRow_hits (f : Frame) :
    calZeroRow.hits f.packed = true ↔
      f.b0 = 0xFF ∧ f.b1 = 0x01 ∧ f.b2 = 0x87 ∧ f.b3 = 0x00 ∧ f.b4 = 0x00 ∧ f.b5 = 0x00 ∧ f.b6 = 0x00 ∧ f.b7 = 0x00 := by
  rw [TableRow.hits_iff calZeroRow ⟨0xFF, 0xFF, 0xFF, 0xFF, 0xFF, 0xFF, 0xFF, 0xFF, 0x00⟩ ⟨0xFF, 0x01, 0x87, 0x00, 0x00, 0x00, 0x00, 0x00, 0x00⟩ f rfl rfl]
  simp only [and_ones, and_zeros, and_true]

theorem calSpanRow_hits (f : Frame) :
    calSpanRow.hits f.packed = true ↔
      f.b0 = 0xFF ∧ f.b1 = 0x01 ∧ f.b2 = 0x88 ∧ f.b5 = 0x00 ∧ f.b6 = 0x00 ∧ f.b7 = 0x00 := by
  rw [TableRow.hits_iff calSpanRow ⟨0xFF, 0xFF, 0xFF, 0x00, 0x00, 0xFF, 0xFF, 0xFF, 0x00⟩ ⟨0xFF, 0x01, 0x88, 0x00, 0x00, 0x00, 0x00, 0x00, 0x00⟩ f rfl rfl]
  simp only [and_ones, and_zeros, and_true, true_and]

theorem setAbcOnRow_hits (f : Frame) :
    setAbcOnRow.hits f.packed = true ↔
      f.b0 = 0xFF ∧ f.b1 = 0x01 ∧ f.b2 = 0x79 ∧ f.b3 = 0xA0 ∧ f.b4 = 0x00 ∧ f.b5 = 0x00 ∧ f.b6 = 0x00 ∧ f.b7 = 0x00 := by
  rw [TableRow.hits_iff setAbcOnRow ⟨0xFF, 0xFF, 0xFF, 0xFF, 0xFF, 0xFF, 0xFF, 0xFF, 0x00⟩ ⟨0xFF, 0x01, 0x79, 0xA0, 0x00, 0x00, 0x00, 0x00, 0x00⟩ f rfl rfl]
  simp only [and_ones, and_zeros, and_true]

theorem setAbcOffRow_hits (f : Frame) :
    setAbcOffRow.hits f.packed = true ↔
      f.b0 = 0xFF ∧ f.b1 = 0x01 ∧ f.b2 = 0x79 ∧ f.b3 = 0x00 ∧ f.b4 = 0x00 ∧ f.b5 = 0x00 ∧ f.b6 = 0x00 ∧ f.b7 = 0x00 := by
  rw [TableRow.hits_iff setAbcOffRow ⟨0xFF, 0xFF, 0xFF, 0xFF, 0xFF, 0xFF, 0xFF, 0xFF, 0x00⟩ ⟨0xFF, 0x01, 0x79, 0x00, 0x00, 0x00, 0x00, 0x00, 0x00⟩ f rfl rfl]
  simp only [and_ones, and_zeros, and_true]

theorem setRange2000Row_hits (f : Frame) :
    setRange2000Row.hits f.packed = true ↔
      f.b0 = 0xFF ∧ f.b1 = 0x01 ∧ f.b2 = 0x99 ∧ f.b3 = 0x07 ∧ f.b4 = 0xD0 ∧ f.b5 = 0x00 ∧ f.b6 = 0x00 ∧ f.b7 = 0x00 := by
  rw [TableRow.hits_iff setRange2000Row ⟨0xFF, 0xFF, 0xFF, 0xFF, 0xFF, 0xFF, 0xFF, 0xFF, 0x00⟩ ⟨0xFF, 0x01, 0x99, 0x07, 0xD0, 0x00, 0x00, 0x00, 0x00⟩ f rfl rfl]
  simp only [and_ones, and_zeros, and_true]

theorem setRange5000Row_hits (f : Frame) :
    setRange5000Row.hits f.packed = true ↔
      f.b0 = 0xFF ∧ f.b1 = 0x01 ∧ f.b2 = 0x99 ∧ f.b3 = 0x13 ∧ f.b4 = 0x88 ∧ f.b5 = 0x00 ∧ f.b6 = 0x00 ∧ f.b7 = 0x00 := by
  rw [TableRow.hits_iff setRange5000Row ⟨0xFF, 0xFF, 0xFF, 0xFF, 0xFF, 0xFF, 0xFF, 0xFF, 0x00⟩ ⟨0xFF, 0x01, 0x99, 0x13, 0x88, 0x00, 0x00, 0x00, 0x00⟩ f rfl rfl]
  simp only [and_ones, and_zeros, and_true]

theorem cmdRawRow_hits (f : Frame) :
    cmdRawRow.hits f.packed = true ↔
      f.b0 = 0xFF ∧ f.b1 = 0x01 ∧ f.b7 = 0x00 := by
  rw [TableRow.hits_iff cmdRawRow ⟨0xFF, 0xFF, 0x00, 0x00, 0x00, 0x00, 0x00, 0xFF, 0x00⟩ ⟨0xFF, 0x01, 0x00, 0x00, 0x00, 0x00, 0x00, 0x00, 0x00⟩ f rfl rfl]
  simp only [and_ones, and_zeros, and_true, true_and]

theorem rspReadCo2Row_hits (f : Frame) :
    rspReadCo2Row.hits f.packed = true ↔
      f.b0 = 0xFF ∧ f.b1 = 0x86 := by
  rw [TableRow.hits_iff rspReadCo2Row ⟨0xFF, 0xFF, 0x00, 0x00, 0x00, 0x00, 0x00, 0x00, 0x00⟩ ⟨0xFF, 0x86, 0x00, 0x00, 0x00, 0x00, 0x00, 0x00, 0x00⟩ f rfl rfl]
  simp only [and_ones, and_zeros, and_true]

theorem rspAnyRow_hits (f : Frame) :
    rspAnyRow.hits f.packed = true ↔
      f.b0 = 0xFF := by
  rw [TableRow.hits_iff rspAnyRow ⟨0xFF, 0x00, 0x00, 0x00, 0x00, 0x00, 0x00, 0x00, 0x00⟩ ⟨0xFF, 0x00, 0x00, 0x00, 0x00, 0x00, 0x00, 0x00, 0x00⟩ f rfl rfl]
  simp only [and_ones, and_zeros, and_true]

/-- The rows of format C in R42's order. -/
theorem classify_command (w : BitVec 72) :
    classify .command w =
      if readCo2Row.hits w = true then some .readCo2
      else if calZeroRow.hits w = true then some .calZero
      else if calSpanRow.hits w = true then some .calSpan
      else if setAbcOnRow.hits w = true then some .setAbcOn
      else if setAbcOffRow.hits w = true then some .setAbcOff
      else if setRange2000Row.hits w = true then some .setRange2000
      else if setRange5000Row.hits w = true then some .setRange5000
      else if cmdRawRow.hits w = true then some .cmdRaw
      else none := by
  have hn : ∀ r : TableRow, r.format = .response → (r.format == Format.command && r.hits w) = false := by
    intro r hr; rw [hr]; rfl
  have hy : ∀ r : TableRow, r.format = .command → (r.format == Format.command && r.hits w) = r.hits w := by
    intro r hr; rw [hr]; rfl
  simp only [classify, opcodeTable, List.find?_cons, List.find?_nil, hy readCo2Row rfl, hy calZeroRow rfl,
    hy calSpanRow rfl, hy setAbcOnRow rfl, hy setAbcOffRow rfl, hy setRange2000Row rfl, hy setRange5000Row rfl,
    hy cmdRawRow rfl, hn rspReadCo2Row rfl, hn rspAnyRow rfl]
  split_ifs <;> simp_all only [Option.map_some, Option.map_none, Bool.not_eq_true] <;> rfl

/-- The rows of format R in R42's order. -/
theorem classify_response (w : BitVec 72) :
    classify .response w =
      if rspReadCo2Row.hits w = true then some .rspReadCo2
      else if rspAnyRow.hits w = true then some .rspAny
      else none := by
  have hn : ∀ r : TableRow, r.format = .command → (r.format == Format.response && r.hits w) = false := by
    intro r hr; rw [hr]; rfl
  have hy : ∀ r : TableRow, r.format = .response → (r.format == Format.response && r.hits w) = r.hits w := by
    intro r hr; rw [hr]; rfl
  simp only [classify, opcodeTable, List.find?_cons, List.find?_nil, hn readCo2Row rfl, hn calZeroRow rfl,
    hn calSpanRow rfl, hn setAbcOnRow rfl, hn setAbcOffRow rfl, hn setRange2000Row rfl, hn setRange5000Row rfl,
    hn cmdRawRow rfl, hy rspReadCo2Row rfl, hy rspAnyRow rfl]
  split_ifs <;> simp_all only [Option.map_some, Option.map_none, Bool.not_eq_true] <;> rfl

end Sys2Proof
end

