-- ==== Sys2Proof/Laws/State.lean ====
section
/-! SUPPORT. One lemma per field per update of State, and one per outcome an update leaves alone; all hold by rfl. -/

namespace Sys2Proof.Machine

variable (s : State)

/-! ### `driveOp` -/

@[simp] theorem State.driveOp_cksB (op : Byte) : (s.driveOp op).cksB = s.cksB := rfl
@[simp] theorem State.driveOp_encCmd (op : Byte) : (s.driveOp op).encCmd = s.encCmd := rfl
@[simp] theorem State.driveOp_encPlen (op : Byte) : (s.driveOp op).encPlen = s.encPlen := rfl
@[simp] theorem State.driveOp_encP (op : Byte) : (s.driveOp op).encP = s.encP := rfl
@[simp] theorem State.driveOp_rxFrame (op : Byte) : (s.driveOp op).rxFrame = s.rxFrame := rfl
@[simp] theorem State.driveOp_rxLen (op : Byte) : (s.driveOp op).rxLen = s.rxLen := rfl
@[simp] theorem State.driveOp_expEn (op : Byte) : (s.driveOp op).expEn = s.expEn := rfl
@[simp] theorem State.driveOp_expCmd (op : Byte) : (s.driveOp op).expCmd = s.expCmd := rfl
@[simp] theorem State.driveOp_cmdOp (op : Byte) : (s.driveOp op).cmdOp = some op := rfl
@[simp] theorem State.driveOp_cmdArg (op : Byte) : (s.driveOp op).cmdArg = s.cmdArg := rfl
@[simp] theorem State.driveOp_cmdFlag (op : Byte) : (s.driveOp op).cmdFlag = s.cmdFlag := rfl
@[simp] theorem State.driveOp_rspOp (op : Byte) : (s.driveOp op).rspOp = s.rspOp := rfl
@[simp] theorem State.driveOp_host (op : Byte) : (s.driveOp op).host = s.host := rfl
@[simp] theorem State.driveOp_outcomes (op : Byte) : (s.driveOp op).outcomes = s.outcomes := rfl
@[simp] theorem State.driveOp_freeIdx (op : Byte) : (s.driveOp op).freeIdx = s.freeIdx := rfl
@[simp] theorem State.driveOp_cksOutcome (op : Byte) : (s.driveOp op).cksOutcome = s.cksOutcome := rfl
@[simp] theorem State.driveOp_encOutcome (op : Byte) : (s.driveOp op).encOutcome = s.encOutcome := rfl
@[simp] theorem State.driveOp_parseOutcome (op : Byte) : (s.driveOp op).parseOutcome = s.parseOutcome := rfl
@[simp] theorem State.driveOp_decOutcome (op : Byte) : (s.driveOp op).decOutcome = s.decOutcome := rfl
@[simp] theorem State.driveOp_echoInputs (op : Byte) : (s.driveOp op).echoInputs = s.echoInputs := rfl
@[simp] theorem State.driveOp_resOutcome (op : Byte) : (s.driveOp op).resOutcome = s.resOutcome := rfl

/-! ### `driveArg` -/

@[simp] theorem State.driveArg_cksB (arg : Half) : (s.driveArg arg).cksB = s.cksB := rfl
@[simp] theorem State.driveArg_encCmd (arg : Half) : (s.driveArg arg).encCmd = s.encCmd := rfl
@[simp] theorem State.driveArg_encPlen (arg : Half) : (s.driveArg arg).encPlen = s.encPlen := rfl
@[simp] theorem State.driveArg_encP (arg : Half) : (s.driveArg arg).encP = s.encP := rfl
@[simp] theorem State.driveArg_rxFrame (arg : Half) : (s.driveArg arg).rxFrame = s.rxFrame := rfl
@[simp] theorem State.driveArg_rxLen (arg : Half) : (s.driveArg arg).rxLen = s.rxLen := rfl
@[simp] theorem State.driveArg_expEn (arg : Half) : (s.driveArg arg).expEn = s.expEn := rfl
@[simp] theorem State.driveArg_expCmd (arg : Half) : (s.driveArg arg).expCmd = s.expCmd := rfl
@[simp] theorem State.driveArg_cmdOp (arg : Half) : (s.driveArg arg).cmdOp = s.cmdOp := rfl
@[simp] theorem State.driveArg_cmdArg (arg : Half) : (s.driveArg arg).cmdArg = some arg := rfl
@[simp] theorem State.driveArg_cmdFlag (arg : Half) : (s.driveArg arg).cmdFlag = s.cmdFlag := rfl
@[simp] theorem State.driveArg_rspOp (arg : Half) : (s.driveArg arg).rspOp = s.rspOp := rfl
@[simp] theorem State.driveArg_host (arg : Half) : (s.driveArg arg).host = s.host := rfl
@[simp] theorem State.driveArg_outcomes (arg : Half) : (s.driveArg arg).outcomes = s.outcomes := rfl
@[simp] theorem State.driveArg_freeIdx (arg : Half) : (s.driveArg arg).freeIdx = s.freeIdx := rfl
@[simp] theorem State.driveArg_cksOutcome (arg : Half) : (s.driveArg arg).cksOutcome = s.cksOutcome := rfl
@[simp] theorem State.driveArg_encOutcome (arg : Half) : (s.driveArg arg).encOutcome = s.encOutcome := rfl
@[simp] theorem State.driveArg_parseOutcome (arg : Half) : (s.driveArg arg).parseOutcome = s.parseOutcome := rfl
@[simp] theorem State.driveArg_decOutcome (arg : Half) : (s.driveArg arg).decOutcome = s.decOutcome := rfl
@[simp] theorem State.driveArg_echoInputs (arg : Half) : (s.driveArg arg).echoInputs = s.echoInputs := rfl
@[simp] theorem State.driveArg_resOutcome (arg : Half) : (s.driveArg arg).resOutcome = s.resOutcome := rfl

/-! ### `driveFlag` -/

@[simp] theorem State.driveFlag_cksB (flag : Bool) : (s.driveFlag flag).cksB = s.cksB := rfl
@[simp] theorem State.driveFlag_encCmd (flag : Bool) : (s.driveFlag flag).encCmd = s.encCmd := rfl
@[simp] theorem State.driveFlag_encPlen (flag : Bool) : (s.driveFlag flag).encPlen = s.encPlen := rfl
@[simp] theorem State.driveFlag_encP (flag : Bool) : (s.driveFlag flag).encP = s.encP := rfl
@[simp] theorem State.driveFlag_rxFrame (flag : Bool) : (s.driveFlag flag).rxFrame = s.rxFrame := rfl
@[simp] theorem State.driveFlag_rxLen (flag : Bool) : (s.driveFlag flag).rxLen = s.rxLen := rfl
@[simp] theorem State.driveFlag_expEn (flag : Bool) : (s.driveFlag flag).expEn = s.expEn := rfl
@[simp] theorem State.driveFlag_expCmd (flag : Bool) : (s.driveFlag flag).expCmd = s.expCmd := rfl
@[simp] theorem State.driveFlag_cmdOp (flag : Bool) : (s.driveFlag flag).cmdOp = s.cmdOp := rfl
@[simp] theorem State.driveFlag_cmdArg (flag : Bool) : (s.driveFlag flag).cmdArg = s.cmdArg := rfl
@[simp] theorem State.driveFlag_cmdFlag (flag : Bool) : (s.driveFlag flag).cmdFlag = some flag := rfl
@[simp] theorem State.driveFlag_rspOp (flag : Bool) : (s.driveFlag flag).rspOp = s.rspOp := rfl
@[simp] theorem State.driveFlag_host (flag : Bool) : (s.driveFlag flag).host = s.host := rfl
@[simp] theorem State.driveFlag_outcomes (flag : Bool) : (s.driveFlag flag).outcomes = s.outcomes := rfl
@[simp] theorem State.driveFlag_freeIdx (flag : Bool) : (s.driveFlag flag).freeIdx = s.freeIdx := rfl
@[simp] theorem State.driveFlag_cksOutcome (flag : Bool) : (s.driveFlag flag).cksOutcome = s.cksOutcome := rfl
@[simp] theorem State.driveFlag_encOutcome (flag : Bool) : (s.driveFlag flag).encOutcome = s.encOutcome := rfl
@[simp] theorem State.driveFlag_parseOutcome (flag : Bool) : (s.driveFlag flag).parseOutcome = s.parseOutcome := rfl
@[simp] theorem State.driveFlag_decOutcome (flag : Bool) : (s.driveFlag flag).decOutcome = s.decOutcome := rfl
@[simp] theorem State.driveFlag_echoInputs (flag : Bool) : (s.driveFlag flag).echoInputs = s.echoInputs := rfl
@[simp] theorem State.driveFlag_resOutcome (flag : Bool) : (s.driveFlag flag).resOutcome = s.resOutcome := rfl

/-! ### `driveEnc` -/

@[simp] theorem State.driveEnc_cksB (cmd : Byte) (plen : BitVec 3) (p : Payload) : (s.driveEnc cmd plen p).cksB = s.cksB := rfl
@[simp] theorem State.driveEnc_encCmd (cmd : Byte) (plen : BitVec 3) (p : Payload) : (s.driveEnc cmd plen p).encCmd = some cmd := rfl
@[simp] theorem State.driveEnc_encPlen (cmd : Byte) (plen : BitVec 3) (p : Payload) : (s.driveEnc cmd plen p).encPlen = some plen := rfl
@[simp] theorem State.driveEnc_encP (cmd : Byte) (plen : BitVec 3) (p : Payload) : (s.driveEnc cmd plen p).encP = some p := rfl
@[simp] theorem State.driveEnc_rxFrame (cmd : Byte) (plen : BitVec 3) (p : Payload) : (s.driveEnc cmd plen p).rxFrame = s.rxFrame := rfl
@[simp] theorem State.driveEnc_rxLen (cmd : Byte) (plen : BitVec 3) (p : Payload) : (s.driveEnc cmd plen p).rxLen = s.rxLen := rfl
@[simp] theorem State.driveEnc_expEn (cmd : Byte) (plen : BitVec 3) (p : Payload) : (s.driveEnc cmd plen p).expEn = s.expEn := rfl
@[simp] theorem State.driveEnc_expCmd (cmd : Byte) (plen : BitVec 3) (p : Payload) : (s.driveEnc cmd plen p).expCmd = s.expCmd := rfl
@[simp] theorem State.driveEnc_cmdOp (cmd : Byte) (plen : BitVec 3) (p : Payload) : (s.driveEnc cmd plen p).cmdOp = s.cmdOp := rfl
@[simp] theorem State.driveEnc_cmdArg (cmd : Byte) (plen : BitVec 3) (p : Payload) : (s.driveEnc cmd plen p).cmdArg = s.cmdArg := rfl
@[simp] theorem State.driveEnc_cmdFlag (cmd : Byte) (plen : BitVec 3) (p : Payload) : (s.driveEnc cmd plen p).cmdFlag = s.cmdFlag := rfl
@[simp] theorem State.driveEnc_rspOp (cmd : Byte) (plen : BitVec 3) (p : Payload) : (s.driveEnc cmd plen p).rspOp = s.rspOp := rfl
@[simp] theorem State.driveEnc_host (cmd : Byte) (plen : BitVec 3) (p : Payload) : (s.driveEnc cmd plen p).host = s.host := rfl
@[simp] theorem State.driveEnc_outcomes (cmd : Byte) (plen : BitVec 3) (p : Payload) : (s.driveEnc cmd plen p).outcomes = s.outcomes := rfl
@[simp] theorem State.driveEnc_freeIdx (cmd : Byte) (plen : BitVec 3) (p : Payload) : (s.driveEnc cmd plen p).freeIdx = s.freeIdx := rfl
@[simp] theorem State.driveEnc_cksOutcome (cmd : Byte) (plen : BitVec 3) (p : Payload) : (s.driveEnc cmd plen p).cksOutcome = s.cksOutcome := rfl
@[simp] theorem State.driveEnc_parseOutcome (cmd : Byte) (plen : BitVec 3) (p : Payload) : (s.driveEnc cmd plen p).parseOutcome = s.parseOutcome := rfl
@[simp] theorem State.driveEnc_decOutcome (cmd : Byte) (plen : BitVec 3) (p : Payload) : (s.driveEnc cmd plen p).decOutcome = s.decOutcome := rfl
@[simp] theorem State.driveEnc_echoInputs (cmd : Byte) (plen : BitVec 3) (p : Payload) : (s.driveEnc cmd plen p).echoInputs = s.echoInputs := rfl
@[simp] theorem State.driveEnc_reqOutcome (cmd : Byte) (plen : BitVec 3) (p : Payload) : (s.driveEnc cmd plen p).reqOutcome = s.reqOutcome := rfl
@[simp] theorem State.driveEnc_resOutcome (cmd : Byte) (plen : BitVec 3) (p : Payload) : (s.driveEnc cmd plen p).resOutcome = s.resOutcome := rfl

/-! ### `driveRx` -/

@[simp] theorem State.driveRx_cksB (f : Frame) (len : BitVec 4) : (s.driveRx f len).cksB = s.cksB := rfl
@[simp] theorem State.driveRx_encCmd (f : Frame) (len : BitVec 4) : (s.driveRx f len).encCmd = s.encCmd := rfl
@[simp] theorem State.driveRx_encPlen (f : Frame) (len : BitVec 4) : (s.driveRx f len).encPlen = s.encPlen := rfl
@[simp] theorem State.driveRx_encP (f : Frame) (len : BitVec 4) : (s.driveRx f len).encP = s.encP := rfl
@[simp] theorem State.driveRx_rxFrame (f : Frame) (len : BitVec 4) : (s.driveRx f len).rxFrame = some f := rfl
@[simp] theorem State.driveRx_rxLen (f : Frame) (len : BitVec 4) : (s.driveRx f len).rxLen = some len := rfl
@[simp] theorem State.driveRx_expEn (f : Frame) (len : BitVec 4) : (s.driveRx f len).expEn = s.expEn := rfl
@[simp] theorem State.driveRx_expCmd (f : Frame) (len : BitVec 4) : (s.driveRx f len).expCmd = s.expCmd := rfl
@[simp] theorem State.driveRx_echoInputs (f : Frame) (len : BitVec 4) : (s.driveRx f len).echoInputs = s.echoInputs := rfl
@[simp] theorem State.driveRx_cmdOp (f : Frame) (len : BitVec 4) : (s.driveRx f len).cmdOp = s.cmdOp := rfl
@[simp] theorem State.driveRx_cmdArg (f : Frame) (len : BitVec 4) : (s.driveRx f len).cmdArg = s.cmdArg := rfl
@[simp] theorem State.driveRx_cmdFlag (f : Frame) (len : BitVec 4) : (s.driveRx f len).cmdFlag = s.cmdFlag := rfl
@[simp] theorem State.driveRx_rspOp (f : Frame) (len : BitVec 4) : (s.driveRx f len).rspOp = s.rspOp := rfl
@[simp] theorem State.driveRx_host (f : Frame) (len : BitVec 4) : (s.driveRx f len).host = s.host := rfl
@[simp] theorem State.driveRx_outcomes (f : Frame) (len : BitVec 4) : (s.driveRx f len).outcomes = s.outcomes := rfl
@[simp] theorem State.driveRx_freeIdx (f : Frame) (len : BitVec 4) : (s.driveRx f len).freeIdx = s.freeIdx := rfl
@[simp] theorem State.driveRx_cksOutcome (f : Frame) (len : BitVec 4) : (s.driveRx f len).cksOutcome = s.cksOutcome := rfl
@[simp] theorem State.driveRx_encOutcome (f : Frame) (len : BitVec 4) : (s.driveRx f len).encOutcome = s.encOutcome := rfl
@[simp] theorem State.driveRx_reqOutcome (f : Frame) (len : BitVec 4) : (s.driveRx f len).reqOutcome = s.reqOutcome := rfl

/-! ### `driveRspOp` -/

@[simp] theorem State.driveRspOp_cksB (op : Byte) : (s.driveRspOp op).cksB = s.cksB := rfl
@[simp] theorem State.driveRspOp_encCmd (op : Byte) : (s.driveRspOp op).encCmd = s.encCmd := rfl
@[simp] theorem State.driveRspOp_encPlen (op : Byte) : (s.driveRspOp op).encPlen = s.encPlen := rfl
@[simp] theorem State.driveRspOp_encP (op : Byte) : (s.driveRspOp op).encP = s.encP := rfl
@[simp] theorem State.driveRspOp_rxFrame (op : Byte) : (s.driveRspOp op).rxFrame = s.rxFrame := rfl
@[simp] theorem State.driveRspOp_rxLen (op : Byte) : (s.driveRspOp op).rxLen = s.rxLen := rfl
@[simp] theorem State.driveRspOp_expEn (op : Byte) : (s.driveRspOp op).expEn = s.expEn := rfl
@[simp] theorem State.driveRspOp_expCmd (op : Byte) : (s.driveRspOp op).expCmd = s.expCmd := rfl
@[simp] theorem State.driveRspOp_cmdOp (op : Byte) : (s.driveRspOp op).cmdOp = s.cmdOp := rfl
@[simp] theorem State.driveRspOp_cmdArg (op : Byte) : (s.driveRspOp op).cmdArg = s.cmdArg := rfl
@[simp] theorem State.driveRspOp_cmdFlag (op : Byte) : (s.driveRspOp op).cmdFlag = s.cmdFlag := rfl
@[simp] theorem State.driveRspOp_rspOp (op : Byte) : (s.driveRspOp op).rspOp = some op := rfl
@[simp] theorem State.driveRspOp_host (op : Byte) : (s.driveRspOp op).host = s.host := rfl
@[simp] theorem State.driveRspOp_outcomes (op : Byte) : (s.driveRspOp op).outcomes = s.outcomes := rfl
@[simp] theorem State.driveRspOp_freeIdx (op : Byte) : (s.driveRspOp op).freeIdx = s.freeIdx := rfl
@[simp] theorem State.driveRspOp_cksOutcome (op : Byte) : (s.driveRspOp op).cksOutcome = s.cksOutcome := rfl
@[simp] theorem State.driveRspOp_encOutcome (op : Byte) : (s.driveRspOp op).encOutcome = s.encOutcome := rfl
@[simp] theorem State.driveRspOp_parseOutcome (op : Byte) : (s.driveRspOp op).parseOutcome = s.parseOutcome := rfl
@[simp] theorem State.driveRspOp_decOutcome (op : Byte) : (s.driveRspOp op).decOutcome = s.decOutcome := rfl
@[simp] theorem State.driveRspOp_echoInputs (op : Byte) : (s.driveRspOp op).echoInputs = s.echoInputs := rfl
@[simp] theorem State.driveRspOp_reqOutcome (op : Byte) : (s.driveRspOp op).reqOutcome = s.reqOutcome := rfl

/-! ### `driveExp` -/

@[simp] theorem State.driveExp_cksB (en : Bool) (cmd : Byte) : (s.driveExp en cmd).cksB = s.cksB := rfl
@[simp] theorem State.driveExp_encCmd (en : Bool) (cmd : Byte) : (s.driveExp en cmd).encCmd = s.encCmd := rfl
@[simp] theorem State.driveExp_encPlen (en : Bool) (cmd : Byte) : (s.driveExp en cmd).encPlen = s.encPlen := rfl
@[simp] theorem State.driveExp_encP (en : Bool) (cmd : Byte) : (s.driveExp en cmd).encP = s.encP := rfl
@[simp] theorem State.driveExp_rxFrame (en : Bool) (cmd : Byte) : (s.driveExp en cmd).rxFrame = s.rxFrame := rfl
@[simp] theorem State.driveExp_rxLen (en : Bool) (cmd : Byte) : (s.driveExp en cmd).rxLen = s.rxLen := rfl
@[simp] theorem State.driveExp_expEn (en : Bool) (cmd : Byte) : (s.driveExp en cmd).expEn = some en := rfl
@[simp] theorem State.driveExp_expCmd (en : Bool) (cmd : Byte) : (s.driveExp en cmd).expCmd = some cmd := rfl
@[simp] theorem State.driveExp_echoInputs (en : Bool) (cmd : Byte) : (s.driveExp en cmd).echoInputs = some (en, if en then cmd else 0) := by
  cases en <;> rfl
@[simp] theorem State.driveExp_cmdOp (en : Bool) (cmd : Byte) : (s.driveExp en cmd).cmdOp = s.cmdOp := rfl
@[simp] theorem State.driveExp_cmdArg (en : Bool) (cmd : Byte) : (s.driveExp en cmd).cmdArg = s.cmdArg := rfl
@[simp] theorem State.driveExp_cmdFlag (en : Bool) (cmd : Byte) : (s.driveExp en cmd).cmdFlag = s.cmdFlag := rfl
@[simp] theorem State.driveExp_rspOp (en : Bool) (cmd : Byte) : (s.driveExp en cmd).rspOp = s.rspOp := rfl
@[simp] theorem State.driveExp_host (en : Bool) (cmd : Byte) : (s.driveExp en cmd).host = s.host := rfl
@[simp] theorem State.driveExp_outcomes (en : Bool) (cmd : Byte) : (s.driveExp en cmd).outcomes = s.outcomes := rfl
@[simp] theorem State.driveExp_freeIdx (en : Bool) (cmd : Byte) : (s.driveExp en cmd).freeIdx = s.freeIdx := rfl
@[simp] theorem State.driveExp_cksOutcome (en : Bool) (cmd : Byte) : (s.driveExp en cmd).cksOutcome = s.cksOutcome := rfl
@[simp] theorem State.driveExp_encOutcome (en : Bool) (cmd : Byte) : (s.driveExp en cmd).encOutcome = s.encOutcome := rfl
@[simp] theorem State.driveExp_parseOutcome (en : Bool) (cmd : Byte) : (s.driveExp en cmd).parseOutcome = s.parseOutcome := rfl
@[simp] theorem State.driveExp_reqOutcome (en : Bool) (cmd : Byte) : (s.driveExp en cmd).reqOutcome = s.reqOutcome := rfl
@[simp] theorem State.driveExp_resOutcome (en : Bool) (cmd : Byte) : (s.driveExp en cmd).resOutcome = s.resOutcome := rfl

/-! ### `driveCks` -/

@[simp] theorem State.driveCks_cksB (b : Covered) : (s.driveCks b).cksB = some b := rfl
@[simp] theorem State.driveCks_encCmd (b : Covered) : (s.driveCks b).encCmd = s.encCmd := rfl
@[simp] theorem State.driveCks_encPlen (b : Covered) : (s.driveCks b).encPlen = s.encPlen := rfl
@[simp] theorem State.driveCks_encP (b : Covered) : (s.driveCks b).encP = s.encP := rfl
@[simp] theorem State.driveCks_rxFrame (b : Covered) : (s.driveCks b).rxFrame = s.rxFrame := rfl
@[simp] theorem State.driveCks_rxLen (b : Covered) : (s.driveCks b).rxLen = s.rxLen := rfl
@[simp] theorem State.driveCks_expEn (b : Covered) : (s.driveCks b).expEn = s.expEn := rfl
@[simp] theorem State.driveCks_expCmd (b : Covered) : (s.driveCks b).expCmd = s.expCmd := rfl
@[simp] theorem State.driveCks_cmdOp (b : Covered) : (s.driveCks b).cmdOp = s.cmdOp := rfl
@[simp] theorem State.driveCks_cmdArg (b : Covered) : (s.driveCks b).cmdArg = s.cmdArg := rfl
@[simp] theorem State.driveCks_cmdFlag (b : Covered) : (s.driveCks b).cmdFlag = s.cmdFlag := rfl
@[simp] theorem State.driveCks_rspOp (b : Covered) : (s.driveCks b).rspOp = s.rspOp := rfl
@[simp] theorem State.driveCks_host (b : Covered) : (s.driveCks b).host = s.host := rfl
@[simp] theorem State.driveCks_outcomes (b : Covered) : (s.driveCks b).outcomes = s.outcomes := rfl
@[simp] theorem State.driveCks_freeIdx (b : Covered) : (s.driveCks b).freeIdx = s.freeIdx := rfl
@[simp] theorem State.driveCks_encOutcome (b : Covered) : (s.driveCks b).encOutcome = s.encOutcome := rfl
@[simp] theorem State.driveCks_parseOutcome (b : Covered) : (s.driveCks b).parseOutcome = s.parseOutcome := rfl
@[simp] theorem State.driveCks_decOutcome (b : Covered) : (s.driveCks b).decOutcome = s.decOutcome := rfl
@[simp] theorem State.driveCks_echoInputs (b : Covered) : (s.driveCks b).echoInputs = s.echoInputs := rfl
@[simp] theorem State.driveCks_reqOutcome (b : Covered) : (s.driveCks b).reqOutcome = s.reqOutcome := rfl
@[simp] theorem State.driveCks_resOutcome (b : Covered) : (s.driveCks b).resOutcome = s.resOutcome := rfl

/-! ### `record` -/

@[simp] theorem State.record_cksB (x : Sampled) : (s.record x).cksB = s.cksB := rfl
@[simp] theorem State.record_encCmd (x : Sampled) : (s.record x).encCmd = s.encCmd := rfl
@[simp] theorem State.record_encPlen (x : Sampled) : (s.record x).encPlen = s.encPlen := rfl
@[simp] theorem State.record_encP (x : Sampled) : (s.record x).encP = s.encP := rfl
@[simp] theorem State.record_rxFrame (x : Sampled) : (s.record x).rxFrame = s.rxFrame := rfl
@[simp] theorem State.record_rxLen (x : Sampled) : (s.record x).rxLen = s.rxLen := rfl
@[simp] theorem State.record_expEn (x : Sampled) : (s.record x).expEn = s.expEn := rfl
@[simp] theorem State.record_expCmd (x : Sampled) : (s.record x).expCmd = s.expCmd := rfl
@[simp] theorem State.record_cmdOp (x : Sampled) : (s.record x).cmdOp = s.cmdOp := rfl
@[simp] theorem State.record_cmdArg (x : Sampled) : (s.record x).cmdArg = s.cmdArg := rfl
@[simp] theorem State.record_cmdFlag (x : Sampled) : (s.record x).cmdFlag = s.cmdFlag := rfl
@[simp] theorem State.record_rspOp (x : Sampled) : (s.record x).rspOp = s.rspOp := rfl
@[simp] theorem State.record_host (x : Sampled) : (s.record x).host = s.host := rfl
@[simp] theorem State.record_outcomes (x : Sampled) : (s.record x).outcomes = s.outcomes ++ [x] := rfl
@[simp] theorem State.record_freeIdx (x : Sampled) : (s.record x).freeIdx = s.freeIdx := rfl
@[simp] theorem State.record_cksOutcome (x : Sampled) : (s.record x).cksOutcome = s.cksOutcome := rfl
@[simp] theorem State.record_encOutcome (x : Sampled) : (s.record x).encOutcome = s.encOutcome := rfl
@[simp] theorem State.record_parseOutcome (x : Sampled) : (s.record x).parseOutcome = s.parseOutcome := rfl
@[simp] theorem State.record_decOutcome (x : Sampled) : (s.record x).decOutcome = s.decOutcome := rfl
@[simp] theorem State.record_echoInputs (x : Sampled) : (s.record x).echoInputs = s.echoInputs := rfl
@[simp] theorem State.record_reqOutcome (x : Sampled) : (s.record x).reqOutcome = s.reqOutcome := rfl
@[simp] theorem State.record_resOutcome (x : Sampled) : (s.record x).resOutcome = s.resOutcome := rfl

/-! ### `advance` -/

@[simp] theorem State.advance_cksB (rest : List HostAct) : (s.advance rest).cksB = s.cksB := rfl
@[simp] theorem State.advance_encCmd (rest : List HostAct) : (s.advance rest).encCmd = s.encCmd := rfl
@[simp] theorem State.advance_encPlen (rest : List HostAct) : (s.advance rest).encPlen = s.encPlen := rfl
@[simp] theorem State.advance_encP (rest : List HostAct) : (s.advance rest).encP = s.encP := rfl
@[simp] theorem State.advance_rxFrame (rest : List HostAct) : (s.advance rest).rxFrame = s.rxFrame := rfl
@[simp] theorem State.advance_rxLen (rest : List HostAct) : (s.advance rest).rxLen = s.rxLen := rfl
@[simp] theorem State.advance_expEn (rest : List HostAct) : (s.advance rest).expEn = s.expEn := rfl
@[simp] theorem State.advance_expCmd (rest : List HostAct) : (s.advance rest).expCmd = s.expCmd := rfl
@[simp] theorem State.advance_cmdOp (rest : List HostAct) : (s.advance rest).cmdOp = s.cmdOp := rfl
@[simp] theorem State.advance_cmdArg (rest : List HostAct) : (s.advance rest).cmdArg = s.cmdArg := rfl
@[simp] theorem State.advance_cmdFlag (rest : List HostAct) : (s.advance rest).cmdFlag = s.cmdFlag := rfl
@[simp] theorem State.advance_rspOp (rest : List HostAct) : (s.advance rest).rspOp = s.rspOp := rfl
@[simp] theorem State.advance_host (rest : List HostAct) : (s.advance rest).host = rest := rfl
@[simp] theorem State.advance_outcomes (rest : List HostAct) : (s.advance rest).outcomes = s.outcomes := rfl
@[simp] theorem State.advance_freeIdx (rest : List HostAct) : (s.advance rest).freeIdx = s.freeIdx + 1 := rfl
@[simp] theorem State.advance_cksOutcome (rest : List HostAct) : (s.advance rest).cksOutcome = s.cksOutcome := rfl
@[simp] theorem State.advance_encOutcome (rest : List HostAct) : (s.advance rest).encOutcome = s.encOutcome := rfl
@[simp] theorem State.advance_parseOutcome (rest : List HostAct) : (s.advance rest).parseOutcome = s.parseOutcome := rfl
@[simp] theorem State.advance_decOutcome (rest : List HostAct) : (s.advance rest).decOutcome = s.decOutcome := rfl
@[simp] theorem State.advance_echoInputs (rest : List HostAct) : (s.advance rest).echoInputs = s.echoInputs := rfl
@[simp] theorem State.advance_reqOutcome (rest : List HostAct) : (s.advance rest).reqOutcome = s.reqOutcome := rfl
@[simp] theorem State.advance_resOutcome (rest : List HostAct) : (s.advance rest).resOutcome = s.resOutcome := rfl

/-! ### sampling is recording -/

@[simp] theorem State.sampleRequest_eq : s.sampleRequest = s.record (.request s.reqOutcome) := rfl
@[simp] theorem State.sampleBuilt_eq : s.sampleBuilt = s.record (.built s.encOutcome) := rfl
@[simp] theorem State.sampleReceived_eq :
    s.sampleReceived = s.record (.received s.parseOutcome s.decOutcome s.resOutcome) := rfl
@[simp] theorem State.sampleChecksum_eq : s.sampleChecksum = s.record (.checksum s.cksOutcome) := rfl

/-! ### what the host drives decides the outcome -/

@[simp] theorem State.driveCks_cksOutcome (b : Covered) : (s.driveCks b).cksOutcome = some (cksOf b) := rfl

/-- ENC on driven ports is BUILD, whatever `enc_plen` is. -/
@[simp] theorem State.driveEnc_encOutcome (cmd : Byte) (plen : BitVec 3) (p : Payload) :
    (s.driveEnc cmd plen p).encOutcome = some (build cmd plen p) := by
  by_cases h : plen = 0
  · subst h; rfl
  · exact if_neg h

/-- PARSE on driven ports. -/
@[simp] theorem State.driveRx_parseOutcome (f : Frame) (len : BitVec 4) :
    (s.driveRx f len).parseOutcome = some (parse f len) := by
  by_cases h : tooShort len = true <;> simp [State.parseOutcome, parse, h]

/-- PARSE where `rx_frame` and `rx_len` are driven. -/
theorem State.driven_parseOutcome {f : Frame} {len : BitVec 4} (h1 : s.rxFrame = some f) (h2 : s.rxLen = some len) :
    s.parseOutcome = some (parse f len) := by
  by_cases h : tooShort len = true <;> simp [State.parseOutcome, parse, h, h1, h2]

/-- DEC is specified exactly where PARSE is and the echo check's inputs are driven. -/
theorem State.decOutcome_eq_none_iff : s.decOutcome = none ↔ s.parseOutcome = none ∨ s.echoInputs = none := by
  unfold State.decOutcome
  split <;> simp_all

/-- The echo check's inputs are driven exactly where `exp_en` is, and `exp_cmd` too if `exp_en` is 1. -/
theorem State.echoInputs_ne_none_iff :
    s.echoInputs ≠ none ↔ ∃ en, s.expEn = some en ∧ (en = true → s.expCmd ≠ none) := by
  unfold State.echoInputs
  split <;> simp_all

/-- With `exp_en` 0 driven, DEC needs no `exp_cmd` (10_state.md R19). -/
theorem State.decOutcome_of_exp_off {f : Frame} {len : BitVec 4} (h1 : s.rxFrame = some f) (h2 : s.rxLen = some len)
    (h3 : s.expEn = some false) (c : Byte) : s.decOutcome = some (dec f len false c) := by
  unfold State.decOutcome State.echoInputs dec
  rw [s.driven_parseOutcome h1 h2, h3]
  cases parse f len <;> simp [finishDec, echo, raise]

/-- DEC on driven ports. -/
theorem State.driven_decOutcome {f : Frame} {len : BitVec 4} {en : Bool} {cmd : Byte} (h1 : s.rxFrame = some f)
    (h2 : s.rxLen = some len) (h3 : s.expEn = some en) (h4 : s.expCmd = some cmd) :
    s.decOutcome = some (dec f len en cmd) := by
  cases en with
  | false => exact s.decOutcome_of_exp_off h1 h2 h3 cmd
  | true =>
    unfold State.decOutcome State.echoInputs dec
    rw [s.driven_parseOutcome h1 h2, h3, h4]
    cases parse f len <;> simp [raise]

/-- The response half on driven ports. -/
theorem State.driven_resOutcome {f : Frame} {len : BitVec 4} {op : Byte} (h1 : s.rxFrame = some f)
    (h2 : s.rxLen = some len) (h3 : s.rspOp = some op) : s.resOutcome = some (response op f len) := by
  unfold State.resOutcome
  by_cases hop : isCommandCode op = true
  · by_cases h : tooShort len = true
    · simp only [h1, h2, h3, hop, h, if_true]
      unfold response ppmReply ackReply dec parse
      simp [h, hop, raise]
    · simp [h1, h2, h3, hop, h]
  · have : op ≠ Config.cmdRead := by rintro rfl; simp [isCommandCode] at hop
    unfold response
    simp only [h3, if_neg hop, if_neg this]

/-- The request half on driven ports. -/
theorem State.driven_reqOutcome {op : Byte} {arg : Half} {flag : Bool} (h1 : s.cmdOp = some op)
    (h2 : s.cmdArg = some arg) (h3 : s.cmdFlag = some flag) : s.reqOutcome = some (request op arg flag) := by
  unfold State.reqOutcome
  simp only [h1, h2, h3]
  by_cases ha : readsArg op = true
  · have : op = Config.cmdSpan ∨ op = Config.cmdRange := by simpa [readsArg] using ha
    rcases this with rfl | rfl <;> simp [readsArg, request]
  · have hs : op ≠ Config.cmdSpan ∧ op ≠ Config.cmdRange := by simpa [readsArg] using ha
    by_cases hf : readsFlag op = true
    · have : op = Config.cmdAbc := by simpa [readsFlag] using hf
      subst this; simp [readsArg, readsFlag, request]
    · have hb : op ≠ Config.cmdAbc := by simpa [readsFlag] using hf
      unfold request
      simp only [if_neg ha, if_neg hf, if_neg hs.1, if_neg hs.2, if_neg hb]

end Sys2Proof.Machine
end

