-- ==== Sys2Proof/Laws/Ops.lean ====
section
/-! SUPPORT. One lemma per shared operation that says once everything it can do. -/

namespace Sys2Proof.Machine

/-! ### BUILD -/

@[simp] theorem build_b0 (c : Byte) (n : BitVec 3) (p : Payload) : (build c n p).b0 = Config.start := rfl
@[simp] theorem build_b1 (c : Byte) (n : BitVec 3) (p : Payload) : (build c n p).b1 = Config.sensorNum := rfl
@[simp] theorem build_b2 (c : Byte) (n : BitVec 3) (p : Payload) : (build c n p).b2 = c := rfl
@[simp] theorem build_b3 (c : Byte) (n : BitVec 3) (p : Payload) : (build c n p).b3 = (padded n p).p0 := rfl
@[simp] theorem build_b4 (c : Byte) (n : BitVec 3) (p : Payload) : (build c n p).b4 = (padded n p).p1 := rfl
@[simp] theorem build_b5 (c : Byte) (n : BitVec 3) (p : Payload) : (build c n p).b5 = (padded n p).p2 := rfl
@[simp] theorem build_b6 (c : Byte) (n : BitVec 3) (p : Payload) : (build c n p).b6 = (padded n p).p3 := rfl
@[simp] theorem build_b7 (c : Byte) (n : BitVec 3) (p : Payload) : (build c n p).b7 = Config.reservedCmdByte := rfl
@[simp] theorem build_b8 (c : Byte) (n : BitVec 3) (p : Payload) : (build c n p).b8 = frameCks (build c n p) := rfl

/-! ### PARSE and DEC -/

/-- Everything PARSE can do (42_decoder.md R61). -/
theorem parse_cases (f : Frame) (len : BitVec 4) :
    (len.toNat < 9 ∧ parse f len = .err .badLength) ∨
    (9 ≤ len.toNat ∧ f.b0 ≠ 0xFF ∧ parse f len = .err .badStart) ∨
    (9 ≤ len.toNat ∧ f.b0 = 0xFF ∧ f.b8 ≠ frameCks f ∧ parse f len = .err .checksumMismatch) ∨
    (9 ≤ len.toNat ∧ f.b0 = 0xFF ∧ f.b8 = frameCks f ∧ parse f len = .ok ⟨f.b1, f.b2, f.b3⟩) := by
  unfold parse
  by_cases hl : tooShort len = true
  · exact .inl ⟨by simpa [tooShort] using hl, if_pos hl⟩
  · have hl' : 9 ≤ len.toNat := by simpa [tooShort] using hl
    rw [if_neg hl]
    by_cases hs : f.b0 ≠ Config.start
    · exact .inr (.inl ⟨hl', hs, if_pos hs⟩)
    · have hs' : f.b0 = 0xFF := not_not.mp hs
      rw [if_neg hs]
      by_cases hc : validChecksum f = true
      · exact .inr (.inr (.inr ⟨hl', hs', (validChecksum_iff f).mp hc, by simp [hc]⟩))
      · exact .inr (.inr (.inl ⟨hl', hs', fun h => hc ((validChecksum_iff f).mpr h), by simp [hc, raise]⟩))

/-- Everything DEC can do (42_decoder.md R68). -/
theorem dec_cases (f : Frame) (len : BitVec 4) (en : Bool) (c : Byte) :
    (∃ e, parse f len = .err e ∧ dec f len en c = .err e) ∨
    (∃ p, parse f len = .ok p ∧ en = true ∧ p.commandCode ≠ c ∧ dec f len en c = .err .unexpectedCommand) ∨
    (∃ p, parse f len = .ok p ∧ (en = true → p.commandCode = c) ∧ dec f len en c = .ok (decodedOf p)) := by
  unfold dec finishDec echo
  cases parse f len with
  | err e => exact .inl ⟨e, rfl, rfl⟩
  | ok p =>
    by_cases h : en = true ∧ p.commandCode ≠ c
    · exact .inr (.inl ⟨p, rfl, h.1, h.2, by simp [h, raise]⟩)
    · refine .inr (.inr ⟨p, rfl, fun he => not_not.mp fun hn => h ⟨he, hn⟩, ?_⟩)
      simp only [if_neg h]

/-! ### the command layer -/

/-- Everything the request half can do (43_commands.md R76). -/
theorem request_cases (op : Byte) (arg : Half) (flag : Bool) :
    (op = 0x86 ∧ request op arg flag = .ok (build 0x86 0 noPayload)) ∨
    (op = 0x87 ∧ request op arg flag = .ok (build 0x87 0 noPayload)) ∨
    (op = 0x88 ∧ 1000 ≤ arg.toNat ∧ request op arg flag = .ok (build 0x88 2 (halfPayload arg))) ∨
    (op = 0x88 ∧ arg.toNat < 1000 ∧ request op arg flag = .err .invalidArgument) ∨
    (op = 0x79 ∧ request op arg flag = .ok (build 0x79 1 (abcPayload flag))) ∨
    (op = 0x99 ∧ (arg = 2000 ∨ arg = 5000) ∧ request op arg flag = .ok (build 0x99 2 (halfPayload arg))) ∨
    (op = 0x99 ∧ ¬(arg = 2000 ∨ arg = 5000) ∧ request op arg flag = .err .invalidArgument) ∨
    (isCommandCode op = false ∧ request op arg flag = .err .invalidArgument) := by
  by_cases h1 : op = 0x86
  · subst h1; exact .inl ⟨rfl, rfl⟩
  by_cases h2 : op = 0x87
  · subst h2; exact .inr (.inl ⟨rfl, rfl⟩)
  by_cases h3 : op = 0x88
  · subst h3
    by_cases ha : 1000 ≤ arg.toNat
    · exact .inr (.inr (.inl ⟨rfl, ha, by simp [request, spanLegal, ha]⟩))
    · exact .inr (.inr (.inr (.inl ⟨rfl, by omega, by simp [request, spanLegal, ha, raise]⟩)))
  by_cases h4 : op = 0x79
  · subst h4; exact .inr (.inr (.inr (.inr (.inl ⟨rfl, rfl⟩))))
  by_cases h5 : op = 0x99
  · subst h5
    by_cases ha : arg = 2000 ∨ arg = 5000
    · refine .inr (.inr (.inr (.inr (.inr (.inl ⟨rfl, ha, ?_⟩)))))
      rcases ha with rfl | rfl <;> rfl
    · have hr : rangeLegal arg = false := by simpa [rangeLegal, not_or] using ha
      exact .inr (.inr (.inr (.inr (.inr (.inr (.inl ⟨rfl, ha, by simp [request, hr, raise]⟩))))))
  · refine .inr (.inr (.inr (.inr (.inr (.inr (.inr ⟨?_, ?_⟩))))))
    · simp only [isCommandCode, Config.cmdRead, Config.cmdZero, Config.cmdSpan, Config.cmdAbc, Config.cmdRange]
      simp only [beq_false_of_ne h1, beq_false_of_ne h2, beq_false_of_ne h3, beq_false_of_ne h4, beq_false_of_ne h5,
        Bool.or_false]
    · have h1' : op ≠ Config.cmdRead := h1
      have h2' : op ≠ Config.cmdZero := h2
      have h3' : op ≠ Config.cmdSpan := h3
      have h4' : op ≠ Config.cmdAbc := h4
      have h5' : op ≠ Config.cmdRange := h5
      unfold request
      rw [if_neg h1', if_neg h2', if_neg h3', if_neg h4', if_neg h5']
      rfl

/-- Everything the response half can do (43_commands.md R77). -/
theorem response_cases (op : Byte) (f : Frame) (len : BitVec 4) :
    (op = 0x86 ∧ response op f len = ppmReply (dec f len true 0x86)) ∨
    (op ≠ 0x86 ∧ isCommandCode op = true ∧ response op f len = ackReply (dec f len false 0)) ∨
    (isCommandCode op = false ∧ response op f len = .err .invalidArgument) := by
  by_cases h1 : op = 0x86
  · exact .inl ⟨h1, if_pos h1⟩
  · have hr : response op f len =
        if isCommandCode op then ackReply (dec f len false 0) else raise .invalidArgument := if_neg h1
    by_cases h2 : isCommandCode op = true
    · exact .inr (.inl ⟨h1, h2, by rw [hr, if_pos h2]⟩)
    · exact .inr (.inr ⟨by simpa using h2, by rw [hr, if_neg h2]; rfl⟩)

/-! ### exec and the host's acts -/

/-- Everything `exec` does besides driving ports: it answers a next state, takes nothing off the host's list, and adds
one outcome. -/
theorem exec_answers (i : Instr) (s : State) :
    ∃ t x, exec i s = .next t ∧ t.host = s.host ∧ t.freeIdx = s.freeIdx ∧ t.outcomes = s.outcomes ++ [x] := by
  cases i <;> exact ⟨_, _, rfl, rfl, rfl, rfl⟩

end Sys2Proof.Machine
end

