-- ==== Sys2Proof/Laws/PerInstr.lean ====
section
/-! SUPPORT. Families stated of every instruction, one lemma per constructor. -/

namespace Sys2Proof.Laws

/-- An instruction's frame is nine bytes that begin with 0xFF (30_encoding.md R30, R31, R41). -/
def EncodesNineBytes.Statement (i : Instr) : Prop := (encode i).length = 9 ∧ (encode i).head? = some 0xFF

theorem EncodesNineBytes.readCo2 (k : Byte) : EncodesNineBytes.Statement (.readCo2 k) := ⟨rfl, rfl⟩
theorem EncodesNineBytes.calZero (k : Byte) : EncodesNineBytes.Statement (.calZero k) := ⟨rfl, rfl⟩
theorem EncodesNineBytes.calSpan (v : Half) (k : Byte) : EncodesNineBytes.Statement (.calSpan v k) := ⟨rfl, rfl⟩
theorem EncodesNineBytes.setAbcOn (k : Byte) : EncodesNineBytes.Statement (.setAbcOn k) := ⟨rfl, rfl⟩
theorem EncodesNineBytes.setAbcOff (k : Byte) : EncodesNineBytes.Statement (.setAbcOff k) := ⟨rfl, rfl⟩
theorem EncodesNineBytes.setRange2000 (k : Byte) : EncodesNineBytes.Statement (.setRange2000 k) := ⟨rfl, rfl⟩
theorem EncodesNineBytes.setRange5000 (k : Byte) : EncodesNineBytes.Statement (.setRange5000 k) := ⟨rfl, rfl⟩
theorem EncodesNineBytes.cmdRaw (c p0 p1 p2 p3 k : Byte) :
    EncodesNineBytes.Statement (.cmdRaw c p0 p1 p2 p3 k) := ⟨rfl, rfl⟩
theorem EncodesNineBytes.rspReadCo2 (dh dl r4 r5 r6 r7 k : Byte) :
    EncodesNineBytes.Statement (.rspReadCo2 dh dl r4 r5 r6 r7 k) := ⟨rfl, rfl⟩
theorem EncodesNineBytes.rspAny (c dh dl r4 r5 r6 r7 k : Byte) :
    EncodesNineBytes.Statement (.rspAny c dh dl r4 r5 r6 r7 k) := ⟨rfl, rfl⟩

/-- An instruction's frame is hit by its own row of the table, mask and match (30_encoding.md R32). -/
def MatchesItsRow.Statement (i : Instr) : Prop :=
  ∃ r ∈ opcodeTable, r.row = i.row ∧ r.format = i.format ∧ r.hits i.toFrame.packed = true

theorem MatchesItsRow.readCo2 (k : Byte) : MatchesItsRow.Statement (.readCo2 k) :=
  ⟨readCo2Row, by simp [opcodeTable], rfl, rfl, (readCo2Row_hits _).mpr ⟨rfl, rfl, rfl, rfl, rfl, rfl, rfl, rfl⟩⟩
theorem MatchesItsRow.calZero (k : Byte) : MatchesItsRow.Statement (.calZero k) :=
  ⟨calZeroRow, by simp [opcodeTable], rfl, rfl, (calZeroRow_hits _).mpr ⟨rfl, rfl, rfl, rfl, rfl, rfl, rfl, rfl⟩⟩
theorem MatchesItsRow.calSpan (v : Half) (k : Byte) : MatchesItsRow.Statement (.calSpan v k) :=
  ⟨calSpanRow, by simp [opcodeTable], rfl, rfl, (calSpanRow_hits _).mpr ⟨rfl, rfl, rfl, rfl, rfl, rfl⟩⟩
theorem MatchesItsRow.setAbcOn (k : Byte) : MatchesItsRow.Statement (.setAbcOn k) :=
  ⟨setAbcOnRow, by simp [opcodeTable], rfl, rfl, (setAbcOnRow_hits _).mpr ⟨rfl, rfl, rfl, rfl, rfl, rfl, rfl, rfl⟩⟩
theorem MatchesItsRow.setAbcOff (k : Byte) : MatchesItsRow.Statement (.setAbcOff k) :=
  ⟨setAbcOffRow, by simp [opcodeTable], rfl, rfl, (setAbcOffRow_hits _).mpr ⟨rfl, rfl, rfl, rfl, rfl, rfl, rfl, rfl⟩⟩
theorem MatchesItsRow.setRange2000 (k : Byte) : MatchesItsRow.Statement (.setRange2000 k) :=
  ⟨setRange2000Row, by simp [opcodeTable], rfl, rfl,
    (setRange2000Row_hits _).mpr ⟨rfl, rfl, rfl, rfl, rfl, rfl, rfl, rfl⟩⟩
theorem MatchesItsRow.setRange5000 (k : Byte) : MatchesItsRow.Statement (.setRange5000 k) :=
  ⟨setRange5000Row, by simp [opcodeTable], rfl, rfl,
    (setRange5000Row_hits _).mpr ⟨rfl, rfl, rfl, rfl, rfl, rfl, rfl, rfl⟩⟩
theorem MatchesItsRow.cmdRaw (c p0 p1 p2 p3 k : Byte) : MatchesItsRow.Statement (.cmdRaw c p0 p1 p2 p3 k) :=
  ⟨cmdRawRow, by simp [opcodeTable], rfl, rfl, (cmdRawRow_hits _).mpr ⟨rfl, rfl, rfl⟩⟩
theorem MatchesItsRow.rspReadCo2 (dh dl r4 r5 r6 r7 k : Byte) :
    MatchesItsRow.Statement (.rspReadCo2 dh dl r4 r5 r6 r7 k) :=
  ⟨rspReadCo2Row, by simp [opcodeTable], rfl, rfl, (rspReadCo2Row_hits _).mpr ⟨rfl, rfl⟩⟩
theorem MatchesItsRow.rspAny (c dh dl r4 r5 r6 r7 k : Byte) :
    MatchesItsRow.Statement (.rspAny c dh dl r4 r5 r6 r7 k) :=
  ⟨rspAnyRow, by simp [opcodeTable], rfl, rfl, (rspAnyRow_hits _).mpr rfl⟩

end Sys2Proof.Laws
end

