-- ==== Sys2Proof/Tests/Slice0.lean ====
section
/-! SUPPORT. Tests: expected values are those of 95_test_vectors.md (the vector's name stands in the comment) or were
worked out by hand from a row's encoding; and, for every statement with hypotheses, a state and operands that meet them. -/

namespace Sys2Proof.Tests

open Sys2Proof.Machine Sys2Proof.Safety

/-! ## Decoding: a word of every row, bit by bit from opcode_table.json's "encoding" -/

theorem test_decode_readCo2 :
    decodeTableWord 72 0b111111110000000110000110000000000000000000000000000000000000000001111001
      = some (.readCo2 0x79) := by decide
theorem test_decode_calZero :
    decodeTableWord 72 0b111111110000000110000111000000000000000000000000000000000000000001111000
      = some (.calZero 0x78) := by decide
theorem test_decode_calSpan :
    decodeTableWord 72 0b111111110000000110001000000001111101000000000000000000000000000010100000
      = some (.calSpan 2000 0xA0) := by decide
theorem test_decode_setAbcOn :
    decodeTableWord 72 0b111111110000000101111001101000000000000000000000000000000000000011100110
      = some (.setAbcOn 0xE6) := by decide
theorem test_decode_setAbcOff :
    decodeTableWord 72 0b111111110000000101111001000000000000000000000000000000000000000010000110
      = some (.setAbcOff 0x86) := by decide
theorem test_decode_setRange2000 :
    decodeTableWord 72 0b111111110000000110011001000001111101000000000000000000000000000010001111
      = some (.setRange2000 0x8F) := by decide
theorem test_decode_setRange5000 :
    decodeTableWord 72 0b111111110000000110011001000100111000100000000000000000000000000011001011
      = some (.setRange5000 0xCB) := by decide
/-- B4: code AB, payload 01 02 03 77, checksum D7. -/
theorem test_decode_cmdRaw :
    decodeTableWord 72 0b111111110000000110101011000000010000001000000011011101110000000011010111
      = some (.cmdRaw 0xAB 0x01 0x02 0x03 0x77 0xD7) := by decide
/-- X14: FF 86 01 9A 43 00 00 12 8A. -/
theorem test_decode_rspReadCo2 :
    decodeTableWord 72 0b111111111000011000000001100110100100001100000000000000000001001010001010
      = some (.rspReadCo2 0x01 0x9A 0x43 0x00 0x00 0x12 0x8A) := by decide
/-- A9: FF 99 01 00 00 00 00 00 66. -/
theorem test_decode_rspAny :
    decodeTableWord 72 0b111111111001100100000001000000000000000000000000000000000000000001100110
      = some (.rspAny 0x99 0x01 0x00 0x00 0x00 0x00 0x00 0x66) := by decide

/-- What is no frame of a format is rejected by name; the direction decides what a looped-back command is (X18). -/
theorem test_decode_rejects :
    decode .command [0xFF, 0x01, 0x86] = .error .shortFrame ∧
    decode .command [0xFE, 0x01, 0x86, 0, 0, 0, 0, 0, 0x79] = .error .badStart ∧
    decode .command [0xFF, 0x02, 0x86, 0, 0, 0, 0, 0, 0x79] = .error .badSensorNumber ∧
    decode .command [0xFF, 0x01, 0x86, 0, 0, 0, 0, 1, 0x79] = .error .badReserved ∧
    decode .response [0x86, 0x02, 0x5C, 0, 0, 0, 0, 0x1C, 0xFF] = .error .badStart ∧
    decode .response [0xFF, 0x01, 0x86, 0, 0, 0, 0, 0, 0x79] = .ok (.rspAny 0x01 0x86 0 0 0 0 0 0x79, []) := by
  decide

/-- A SET_RANGE frame with an illegal range, and a READ_CO2 frame with a payload, are only CMD_RAW (R40, R42). -/
theorem test_decode_generic_rows :
    decode .command [0xFF, 0x01, 0x99, 0x0B, 0xB8, 0, 0, 0, 0xA3] = .ok (.cmdRaw 0x99 0x0B 0xB8 0 0 0xA3, []) ∧
    decode .command [0xFF, 0x01, 0x86, 0, 0, 0, 1, 0, 0x78] = .ok (.cmdRaw 0x86 0 0 0 1 0x78, []) := by
  decide

/-! ## WellFormed: an ill-formed term for each check -/

theorem smoke_checksum_refused :
    (Instr.readCo2 0x79).wellFormed = true ∧ (Instr.readCo2 0x7A).wellFormed = false ∧
    (Instr.calZero 0x79).wellFormed = false ∧ (Instr.calSpan 2000 0xA1).wellFormed = false ∧
    (Instr.setAbcOn 0xE7).wellFormed = false ∧ (Instr.setAbcOff 0x85).wellFormed = false ∧
    (Instr.setRange2000 0x8E).wellFormed = false ∧ (Instr.setRange5000 0xCC).wellFormed = false ∧
    (Instr.cmdRaw 0xAB 1 2 3 0x77 0xD6).wellFormed = false ∧
    (Instr.rspReadCo2 0x02 0x5C 0 0 0 0 0x79).wellFormed = false ∧
    (Instr.rspAny 0x88 0x01 0 0 0 0 0 0x78).wellFormed = false := by
  decide

/-- A generic row for a frame that a specific row matches, its checksum right. -/
theorem smoke_generic_row_refused :
    (Instr.cmdRaw 0x86 0 0 0 0 0x79).wellFormed = false ∧ (Instr.cmdRaw 0x88 0x07 0xD0 0 0 0xA0).wellFormed = false ∧
    (Instr.cmdRaw 0x79 0xA0 0 0 0 0xE6).wellFormed = false ∧
    (Instr.cmdRaw 0x99 0x13 0x88 0 0 0xCB).wellFormed = false ∧
    (Instr.rspAny 0x86 0x02 0x5C 0 0 0 0 0x1C).wellFormed = false ∧
    (Instr.rspReadCo2 0x02 0x5C 0 0 0 0 0x1C).wellFormed = true := by
  decide

/-! ## The units -/

/-- K1 to K18. -/
theorem test_cks_vectors :
    cks 0 0 0 0 0 0 0 = 0x00 ∧ cks 0x01 0x86 0 0 0 0 0 = 0x79 ∧ cks 0x86 0x02 0x5C 0 0 0 0 = 0x1C ∧
    cks 0xFF 0xFF 0xFF 0xFF 0xFF 0xFF 0xFF = 0x07 ∧ cks 0x01 0xFF 0 0 0 0 0 = 0x00 ∧ cks 0x80 0x80 0 0 0 0 0 = 0x00 ∧
    cks 0x01 0 0 0 0 0 0 = 0xFF ∧ cks 0xFF 0 0 0 0 0 0 = 0x01 ∧ cks 1 2 3 4 5 6 7 = 0xE4 ∧ cks 7 6 5 4 3 2 1 = 0xE4 ∧
    cks 0x80 0 0 0 0 0 0 = 0x80 ∧ cks 0 0 0 0 0 0 0x80 = 0x80 ∧ cks 0x7F 0 0 0 0 0 0x01 = 0x80 ∧
    cks 0x01 0x88 0x07 0xD0 0 0 0 = 0xA0 ∧ cks 0x01 0x79 0xA0 0 0 0 0 = 0xE6 ∧ cks 0x01 0x99 0x13 0x88 0 0 0 = 0xCB ∧
    cks 0x10 0x20 0x30 0x40 0x50 0x60 0x70 = 0x40 ∧ cks 0xAA 0x55 0xAA 0x55 0xAA 0x55 0xAA = 0x59 ∧
    verify8 1 2 3 4 5 6 7 0xE4 = true ∧ verify8 0x86 0x02 0x5C 0 0 0 0 0x1C = true := by
  decide

/-- B2 to B7, B9 to B12. -/
theorem test_build_vectors :
    build 0x86 0 ⟨9, 9, 9, 9⟩ = ⟨0xFF, 0x01, 0x86, 0, 0, 0, 0, 0, 0x79⟩ ∧
    build 0xAB 3 ⟨1, 2, 3, 0x77⟩ = ⟨0xFF, 0x01, 0xAB, 1, 2, 3, 0, 0, 0x4E⟩ ∧
    build 0xAB 4 ⟨1, 2, 3, 0x77⟩ = ⟨0xFF, 0x01, 0xAB, 1, 2, 3, 0x77, 0, 0xD7⟩ ∧
    build 0xAB 1 ⟨0, 5, 5, 5⟩ = ⟨0xFF, 0x01, 0xAB, 0, 0, 0, 0, 0, 0x54⟩ ∧
    build 0xAB 0 ⟨5, 5, 5, 5⟩ = ⟨0xFF, 0x01, 0xAB, 0, 0, 0, 0, 0, 0x54⟩ ∧
    build 0xFF 0 ⟨0, 0, 0, 0⟩ = ⟨0xFF, 0x01, 0xFF, 0, 0, 0, 0, 0, 0x00⟩ ∧
    build 0xFF 4 ⟨0xFF, 0xFF, 0xFF, 0xFF⟩ = ⟨0xFF, 0x01, 0xFF, 0xFF, 0xFF, 0xFF, 0xFF, 0, 0x04⟩ ∧
    build 0x7E 2 ⟨0x81, 0, 0, 0⟩ = ⟨0xFF, 0x01, 0x7E, 0x81, 0, 0, 0, 0, 0x00⟩ ∧
    build 0x99 4 ⟨0, 0, 0x07, 0xD0⟩ = ⟨0xFF, 0x01, 0x99, 0, 0, 0x07, 0xD0, 0, 0x8F⟩ ∧
    build 0xAB 7 ⟨1, 2, 3, 4⟩ = ⟨0xFF, 0x01, 0xAB, 1, 2, 3, 4, 0, 0x4A⟩ := by
  decide

/-- S1's frame. -/
def readFrame : Frame := ⟨0xFF, 0x86, 0x02, 0x5C, 0, 0, 0, 0, 0x1C⟩

/-- X1 to X6, X10 to X13. -/
theorem test_dec_vectors :
    dec readFrame 9 false 0 = .ok ⟨0x86, 0x02, 0x5C, 604⟩ ∧ dec readFrame 9 true 0x86 = .ok ⟨0x86, 0x02, 0x5C, 604⟩ ∧
    dec readFrame 9 true 0x87 = .err .unexpectedCommand ∧
    dec { readFrame with b8 := 0x79 } 9 false 0 = .err .checksumMismatch ∧
    dec { readFrame with b8 := 0x1D } 9 false 0 = .err .checksumMismatch ∧
    dec { readFrame with b8 := 0x1B } 9 false 0 = .err .checksumMismatch ∧
    dec readFrame 8 false 0 = .err .badLength ∧ dec readFrame 0 false 0 = .err .badLength ∧
    dec { readFrame with b0 := 0xFE, b8 := 0 } 8 true 0x99 = .err .badLength ∧
    dec readFrame 15 false 0 = .ok ⟨0x86, 0x02, 0x5C, 604⟩ := by
  decide

/-- X7, X9, X14 to X20, X26, X27. -/
theorem test_dec_corner_vectors :
    dec { readFrame with b0 := 0xFE } 9 false 0 = .err .badStart ∧
    dec { readFrame with b0 := 0xFE, b8 := 0 } 9 true 0x99 = .err .badStart ∧
    dec ⟨0xFF, 0x86, 0x01, 0x9A, 0x43, 0, 0, 0x12, 0x8A⟩ 9 true 0x86 = .ok ⟨0x86, 0x01, 0x9A, 410⟩ ∧
    dec ⟨0xFF, 0x86, 0x01, 0x9A, 0x43, 0, 0, 0x12, 0x8B⟩ 9 true 0x86 = .err .checksumMismatch ∧
    dec ⟨0xFF, 0, 0, 0, 0, 0, 0, 0, 0⟩ 9 false 0 = .ok ⟨0, 0, 0, 0⟩ ∧
    dec ⟨0xFF, 0xFF, 0xFF, 0xFF, 0xFF, 0xFF, 0xFF, 0xFF, 0x07⟩ 9 false 0 = .ok ⟨0xFF, 0xFF, 0xFF, 65535⟩ ∧
    dec ⟨0xFF, 0x01, 0x86, 0, 0, 0, 0, 0, 0x79⟩ 9 false 0 = .ok ⟨0x01, 0x86, 0, 34304⟩ ∧
    dec ⟨0xFF, 0x01, 0x86, 0, 0, 0, 0, 0, 0x79⟩ 9 true 0x86 = .err .unexpectedCommand ∧
    dec ⟨0, 0, 0, 0, 0, 0, 0, 0, 0⟩ 9 false 0 = .err .badStart ∧
    dec ⟨0xFF, 0x86, 0x5C, 0x02, 0, 0, 0, 0, 0x1C⟩ 9 true 0x86 = .ok ⟨0x86, 0x5C, 0x02, 23554⟩ ∧
    dec ⟨0xFF, 0x87, 0x02, 0x5C, 0, 0, 0, 0, 0x1C⟩ 9 true 0x86 = .err .checksumMismatch := by
  decide

/-- Q2, Q4 to Q10, Q13, Q16 to Q20, Q23 to Q25. -/
theorem test_request_vectors :
    request 0x86 1234 true = .ok ⟨0xFF, 0x01, 0x86, 0, 0, 0, 0, 0, 0x79⟩ ∧
    request 0x88 999 false = .err .invalidArgument ∧ request 0x88 0 false = .err .invalidArgument ∧
    request 0x88 1000 false = .ok ⟨0xFF, 0x01, 0x88, 0x03, 0xE8, 0, 0, 0, 0x8C⟩ ∧
    request 0x88 5000 false = .ok ⟨0xFF, 0x01, 0x88, 0x13, 0x88, 0, 0, 0, 0xDC⟩ ∧
    request 0x88 65535 false = .ok ⟨0xFF, 0x01, 0x88, 0xFF, 0xFF, 0, 0, 0, 0x79⟩ ∧
    request 0x88 1024 false = .ok ⟨0xFF, 0x01, 0x88, 0x04, 0x00, 0, 0, 0, 0x73⟩ ∧
    request 0x79 65535 true = .ok ⟨0xFF, 0x01, 0x79, 0xA0, 0, 0, 0, 0, 0xE6⟩ ∧
    request 0x99 3000 false = .err .invalidArgument ∧ request 0x99 1999 false = .err .invalidArgument ∧
    request 0x99 2001 false = .err .invalidArgument ∧ request 0x99 4999 false = .err .invalidArgument ∧
    request 0x99 5001 false = .err .invalidArgument ∧ request 0x85 0 false = .err .invalidArgument ∧
    request 0x00 0 false = .err .invalidArgument ∧ request 0xFF 0 false = .err .invalidArgument := by
  decide

/-- A1 to A13. -/
theorem test_response_vectors :
    response 0x86 readFrame 9 = .ok (.ppm 604) ∧
    response 0x86 ⟨0xFF, 0x86, 0x01, 0x90, 0, 0, 0, 0, 0xE9⟩ 9 = .ok (.ppm 400) ∧
    response 0x86 ⟨0xFF, 0x87, 0, 0, 0, 0, 0, 0, 0x79⟩ 9 = .err .unexpectedCommand ∧
    response 0x87 ⟨0xFF, 0x87, 0, 0, 0, 0, 0, 0, 0x79⟩ 9 = .ok .ack ∧ response 0x87 readFrame 9 = .ok .ack ∧
    response 0x88 ⟨0xFF, 0x88, 0x01, 0, 0, 0, 0, 0, 0x78⟩ 9 = .err .checksumMismatch ∧
    response 0x79 ⟨0xFF, 0x79, 0x01, 0, 0, 0, 0, 0, 0x86⟩ 9 = .ok .ack ∧
    response 0x86 ⟨0x86, 0x02, 0x5C, 0, 0, 0, 0, 0x1C, 0xFF⟩ 9 = .err .badStart ∧
    response 0x86 ⟨0xFF, 0x86, 0x02, 0x5C, 0, 0, 0, 0, 0⟩ 4 = .err .badLength ∧
    response 0x12 readFrame 9 = .err .invalidArgument ∧
    response 0x99 ⟨0xFE, 0x99, 0x01, 0, 0, 0, 0, 0, 0x66⟩ 9 = .err .badStart := by
  decide

/-- T4, T5, T9. -/
theorem test_round_trip_vectors :
    echoAsResponse 0x88 0x03 0xE8 0 0 = ⟨0xFF, 0x88, 0x03, 0xE8, 0, 0, 0, 0, 0x8D⟩ ∧
    echoAsResponse 0x79 0xA0 0 0 0 = ⟨0xFF, 0x79, 0xA0, 0, 0, 0, 0, 0, 0xE7⟩ ∧
    parse (echoAsResponse 0xAB 1 2 3 4) 9 = .ok ⟨0xAB, 1, 2⟩ := by
  decide

/-! ## One step of every row -/

/-- The outcomes after one step that runs a table word. -/
def outcomesAfter (s : State) (w : Nat) : List Sampled :=
  match step (s.withFetchWord 72 w) with
  | .next t => t.outcomes
  | .fault _ => []
  | .refused _ => []

/-- A host that has said it sent READ_CO2 and asks DEC for the echo of 0x86. -/
def awaitingRead : State := { State.reset with rspOp := some 0x86, expEn := some true, expCmd := some 0x86 }

/-- Q1. -/
theorem test_step_readCo2 : outcomesAfter State.reset 0xFF0186000000000079 =
    [.request (some (.ok ⟨0xFF, 0x01, 0x86, 0, 0, 0, 0, 0, 0x79⟩))] := by decide
/-- Q3. -/
theorem test_step_calZero : outcomesAfter State.reset 0xFF0187000000000078 =
    [.request (some (.ok ⟨0xFF, 0x01, 0x87, 0, 0, 0, 0, 0, 0x78⟩))] := by decide
/-- Q7. -/
theorem test_step_calSpan : outcomesAfter State.reset 0xFF018807D0000000A0 =
    [.request (some (.ok ⟨0xFF, 0x01, 0x88, 0x07, 0xD0, 0, 0, 0, 0xA0⟩))] := by decide
/-- Q4 (999 = 0x03E7). -/
theorem test_step_calSpan_refused : outcomesAfter State.reset 0xFF018803E70000008D =
    [.request (some (.err .invalidArgument))] := by decide
/-- Q11. -/
theorem test_step_setAbcOn : outcomesAfter State.reset 0xFF0179A000000000E6 =
    [.request (some (.ok ⟨0xFF, 0x01, 0x79, 0xA0, 0, 0, 0, 0, 0xE6⟩))] := by decide
/-- Q12. -/
theorem test_step_setAbcOff : outcomesAfter State.reset 0xFF0179000000000086 =
    [.request (some (.ok ⟨0xFF, 0x01, 0x79, 0, 0, 0, 0, 0, 0x86⟩))] := by decide
/-- Q14. -/
theorem test_step_setRange2000 : outcomesAfter State.reset 0xFF019907D00000008F =
    [.request (some (.ok ⟨0xFF, 0x01, 0x99, 0x07, 0xD0, 0, 0, 0, 0x8F⟩))] := by decide
/-- Q15. -/
theorem test_step_setRange5000 : outcomesAfter State.reset 0xFF01991388000000CB =
    [.request (some (.ok ⟨0xFF, 0x01, 0x99, 0x13, 0x88, 0, 0, 0, 0xCB⟩))] := by decide
/-- B4. -/
theorem test_step_cmdRaw : outcomesAfter State.reset 0xFF01AB0102037700D7 =
    [.built (some ⟨0xFF, 0x01, 0xAB, 1, 2, 3, 0x77, 0, 0xD7⟩)] := by decide
/-- A1, X2. -/
theorem test_step_rspReadCo2 : outcomesAfter awaitingRead 0xFF86025C000000001C =
    [.received (some (.ok ⟨0x86, 0x02, 0x5C⟩)) (some (.ok ⟨0x86, 0x02, 0x5C, 604⟩)) (some (.ok (.ppm 604)))] := by decide
/-- S1x: the frame as the source prints it. -/
theorem test_step_rspReadCo2_bad_checksum : outcomesAfter awaitingRead 0xFF86025C0000000079 =
    [.received (some (.err .checksumMismatch)) (some (.err .checksumMismatch)) (some (.err .checksumMismatch))] := by
  decide
/-- A3, X24. -/
theorem test_step_rspAny_refused_echo : outcomesAfter awaitingRead 0xFF8700000000000079 =
    [.received (some (.ok ⟨0x87, 0, 0⟩)) (some (.err .unexpectedCommand)) (some (.err .unexpectedCommand))] := by decide
/-- A9; DEC is unspecified, since `exp_en` is not driven (R18). -/
theorem test_step_rspAny_acknowledged : outcomesAfter { State.reset with rspOp := some 0x99 } 0xFF9901000000000066 =
    [.received (some (.ok ⟨0x99, 0x01, 0x00⟩)) none (some (.ok .ack))] := by decide

/-- A11: four bytes only; A12: an unknown `rsp_op`. -/
theorem test_act_short_and_unknown :
    (match applyAct (.receive ⟨0xFF, 0x86, 0x02, 0x5C, 0, 0, 0, 0, 0⟩ 4) awaitingRead with
      | .next t => t.outcomes
      | _ => []) = [.received (some (.err .badLength)) (some (.err .badLength)) (some (.err .badLength))] ∧
    (match applyAct (.receive readFrame 9) { State.reset with rspOp := some 0x12 } with
      | .next t => t.resOutcome
      | _ => none) = some (.err .invalidArgument) := by
  decide

/-- S6 on the wires: nine zero bytes, `req_ok = 0`, `req_err = 5`. -/
theorem test_wires_of_a_refused_request :
    ({ State.reset with cmdOp := some 0x88, cmdArg := some 999 } : State).reqWires = ⟨false, 5, zeroFrame⟩ := by decide

/-! ## The statements' hypotheses can be met -/

theorem witness_AnySingleByteChangeInvalidatesTheChecksum :
    let v : Fin 8 → Byte := ![0x86, 0x02, 0x5C, 0, 0, 0, 0, 0x1C]
    ((0x87 : Byte) ≠ v 0 ∧ (0x1D : Byte) ≠ v 7) ∧
      verify8 (v 0) (v 1) (v 2) (v 3) (v 4) (v 5) (v 6) (v 7) = true := by decide
theorem witness_BuildLaysOutTheCommandFrame : (0 : BitVec 3).toNat ≤ 4 ∧ (4 : BitVec 3).toNat ≤ 4 := by decide
theorem witness_PayloadLengthsAboveFourActAsFour : 4 < (5 : BitVec 3).toNat ∧ 4 < (7 : BitVec 3).toNat := by decide
theorem witness_ParseOutcomeByCondition :
    (8 : BitVec 4).toNat < 9 ∧ 9 ≤ (9 : BitVec 4).toNat ∧ ({ readFrame with b0 := 0xFE } : Frame).b0 ≠ 0xFF ∧
    readFrame.b0 = 0xFF ∧ ({ readFrame with b8 := 0x1D } : Frame).b8 ≠ cks 0x86 0x02 0x5C 0 0 0 0 ∧
    readFrame.b8 = cks readFrame.b1 readFrame.b2 readFrame.b3 readFrame.b4 readFrame.b5 readFrame.b6 readFrame.b7 ∧
    let s := { awaitingRead with rxFrame := some readFrame, rxLen := some 8 }
    s.rxFrame = some readFrame ∧ s.rxLen = some 8 ∧ s.expEn = some true ∧ s.expCmd = some 0x86 := by decide
theorem witness_LengthsAboveNineActAsNine : 9 < (10 : BitVec 4).toNat ∧ 9 < (15 : BitVec 4).toNat := by decide
theorem witness_EchoCheckOnlyWhenEnabled :
    parse readFrame 9 = .ok ⟨0x86, 0x02, 0x5C⟩ ∧ (⟨0x86, 0x02, 0x5C⟩ : Parsed).commandCode ≠ 0x87 ∧
    (⟨0x86, 0x02, 0x5C⟩ : Parsed).commandCode = 0x86 ∧ parse readFrame 8 = .err .badLength := by decide
theorem witness_ConcentrationIsTheBigEndianPair : dec readFrame 9 false 0 = .ok ⟨0x86, 0x02, 0x5C, 604⟩ := by decide
theorem witness_StatusWiresTellTheOutcome :
    ({ State.reset with rxLen := some 3, expEn := some false } : State).decOutcome = some (.err .badLength) ∧
    ({ State.reset with rxLen := some 9, rxFrame := some readFrame, expEn := some false } : State).decOutcome
      = some (.ok ⟨0x86, 0x02, 0x5C, 604⟩) ∧
    ({ State.reset with cmdOp := some 0x85 } : State).reqOutcome = some (.err .invalidArgument) ∧
    ({ State.reset with cmdOp := some 0x86 } : State).reqOutcome
      = some (.ok ⟨0xFF, 0x01, 0x86, 0, 0, 0, 0, 0, 0x79⟩) ∧
    ({ State.reset with rspOp := some 0x12 } : State).resOutcome = some (.err .invalidArgument) ∧
    ({ State.reset with rspOp := some 0x86, rxLen := some 9, rxFrame := some readFrame } : State).resOutcome
      = some (.ok (.ppm 604)) ∧
    ({ State.reset with rspOp := some 0x87, rxLen := some 9, rxFrame := some readFrame } : State).resOutcome
      = some (.ok .ack) := by decide
theorem witness_InvalidArgumentHasExactlyFourCauses : request 0x88 999 false = .err .invalidArgument := by decide
theorem witness_CalSpanChecksAndEmitsItsTarget :
    (999 : Half).toNat < 1000 ∧ 1000 ≤ (1000 : Half).toNat ∧ 1000 ≤ (65535 : Half).toNat := by decide
theorem witness_SetRangeEmitsOnlyItsTwoFrames :
    (1999 : Half) ≠ 2000 ∧ (1999 : Half) ≠ 5000 ∧ (2001 : Half) ≠ 2000 ∧ (2001 : Half) ≠ 5000 ∧
    (4999 : Half) ≠ 2000 ∧ (4999 : Half) ≠ 5000 ∧ (5001 : Half) ≠ 2000 ∧ (5001 : Half) ≠ 5000 := by decide
theorem witness_UnknownOperationCodesAreRefused :
    (0x85 : Byte) ≠ 0x86 ∧ (0x85 : Byte) ≠ 0x87 ∧ (0x85 : Byte) ≠ 0x88 ∧ (0x85 : Byte) ≠ 0x79 ∧ (0x85 : Byte) ≠ 0x99 ∧
    let s := { State.reset with rspOp := some 0x85, rxFrame := some readFrame, rxLen := some 9 }
    s.rspOp = some 0x85 ∧ s.rxFrame = some readFrame ∧ s.rxLen = some 9 := by decide
theorem witness_RequestFramesAreGoodAndDistinct :
    request 0x88 2000 false = .ok ⟨0xFF, 0x01, 0x88, 0x07, 0xD0, 0, 0, 0, 0xA0⟩ ∧
    request 0x88 2000 true = .ok ⟨0xFF, 0x01, 0x88, 0x07, 0xD0, 0, 0, 0, 0xA0⟩ ∧ readsArg 0x88 = true ∧
    readsFlag 0x79 = true ∧ request 0x79 0 true = .ok ⟨0xFF, 0x01, 0x79, 0xA0, 0, 0, 0, 0, 0xE6⟩ := by decide
theorem witness_ReadResponseGivesTheConcentration : awaitingRead.rspOp = some 0x86 := by decide
theorem witness_OtherResponsesAreAcknowledged :
    ({ State.reset with rspOp := some 0x99 } : State).rspOp = some 0x99 ∧
    ((0x99 : Byte) = 0x87 ∨ (0x99 : Byte) = 0x88 ∨ (0x99 : Byte) = 0x79 ∨ (0x99 : Byte) = 0x99) := by decide
theorem witness_ResponseRowsParseTheirBytes :
    State.reset.expEn = none ∧
    ({ State.reset with expEn := some false } : State).expEn = some false ∧ awaitingRead.expEn = some true ∧
    awaitingRead.expCmd = some 0x86 := by decide
theorem witness_LoopedBackCommandsPassParse : 9 ≤ (9 : BitVec 4).toNat := by decide
theorem witness_InstructionFrames :
    (∃ t, exec (.readCo2 0x79) State.reset = .next t) ∧ (∃ t, exec (.cmdRaw 0xAB 1 2 3 4 0x4A) State.reset = .next t) ∧
    (∃ t, exec (.rspAny 0x87 0 0 0 0 0 0 0x79) State.reset = .next t) := ⟨⟨_, rfl⟩, ⟨_, rfl⟩, ⟨_, rfl⟩⟩
theorem witness_IgnoredInputsHaveNoEffect :
    (∀ n : BitVec 3, n = 2 → (2 < n.toNat → (1 : Byte) = 9) ∧ (3 < n.toNat → (1 : Byte) = 9)) ∧
    (8 : BitVec 4).toNat < 9 ∧ (0x88 : Byte) ≠ 0x79 ∧ isCommandCode 0x85 = false := by decide
theorem witness_OutputsAreFunctionsOfPresentInputs :
    let s := awaitingRead
    let t := { awaitingRead with outcomes := [.checksum none], freeIdx := 7 }
    s.rspOp = t.rspOp ∧ s.rxFrame = t.rxFrame ∧ s.rxLen = t.rxLen ∧ s.expEn = t.expEn ∧ s.expCmd = t.expCmd ∧
    s.cmdOp = t.cmdOp ∧ s.cmdArg = t.cmdArg ∧ s.cmdFlag = t.cmdFlag ∧ s.cksB = t.cksB ∧ s ≠ t := by decide
theorem witness_OutputsAreFunctionsOfPresentInputs_driven :
    let s := { awaitingRead with rxFrame := some readFrame, rxLen := some 9, cmdOp := some 0x88, cmdArg := some 2000,
                                 cmdFlag := some false }
    s.rxFrame = some readFrame ∧ s.rxLen = some 9 ∧ s.expEn = some true ∧ s.expCmd = some 0x86 ∧ s.cmdOp = some 0x88 ∧
    s.cmdArg = some 2000 ∧ s.cmdFlag = some false ∧ s.rspOp = some 0x86 := by decide
theorem witness_DecodeInvertsEncode :
    (Instr.cmdRaw 0xAB 1 2 3 4 0x4A).canonical = true ∧ (Instr.rspAny 0x87 0 0 0 0 0 0 0).canonical = true := by decide
theorem witness_EncodeInvertsDecode :
    decode .command [0xFF, 0x01, 0x88, 0x07, 0xD0, 0, 0, 0, 0xA0, 0x55] = .ok (.calSpan 2000 0xA0, [0x55]) ∧
    decode .response [0xFF, 0x86, 0x02, 0x5C, 0, 0, 0, 0, 0x1C] = .ok (.rspReadCo2 0x02 0x5C 0 0 0 0 0x1C, []) := by decide
theorem witness_CommandLayerEmitsOnlySpecificRows :
    request 0x88 1000 false = .ok ⟨0xFF, 0x01, 0x88, 0x03, 0xE8, 0, 0, 0, 0x8C⟩ := by decide
theorem witness_StepRunsTheDecodedInstruction :
    ({ State.reset with host := [.command ⟨0xFF, 0x01, 0x86, 0, 0, 0, 0, 0, 0x79⟩] } : State).host
      = .command ⟨0xFF, 0x01, 0x86, 0, 0, 0, 0, 0, 0x79⟩ :: [] ∧
    decode .command (⟨0xFF, 0x01, 0x86, 0, 0, 0, 0, 0, 0x79⟩ : Frame).toList = .ok (.readCo2 0x79, []) ∧
    ({ State.reset with host := [.receive readFrame 9] } : State).host = .receive readFrame 9 :: [] ∧
    decode .response readFrame.toList = .ok (.rspReadCo2 0x02 0x5C 0 0 0 0 0x1C, []) := by decide
theorem witness_PlacedWordsRunNext :
    decodeTableWord 72 0xFF0186000000000079 = some (.readCo2 0x79) ∧
    decodeTableWord 72 0xFF86025C000000001C = some (.rspReadCo2 0x02 0x5C 0 0 0 0 0x1C) := by decide
theorem witness_StepKeepsTheRunLegal :
    LegalRun (State.reset.withFetchWord 72 0xFF0186000000000079) ∧
    ∃ t, step (State.reset.withFetchWord 72 0xFF0186000000000079) = .next t := ⟨by decide, ⟨_, rfl⟩⟩
theorem witness_TransactionIsRequestLinkResponse :
    request 0x88 999 false = .err .invalidArgument ∧
    request 0x86 0 false = .ok ⟨0xFF, 0x01, 0x86, 0, 0, 0, 0, 0, 0x79⟩ := by decide
theorem witness_RunOfATransactionGivesItsResult :
    ({ State.reset with host := transactionActs 0x86 0 false readFrame 9 } : State).host
      = transactionActs 0x86 0 false readFrame 9 ++ [] := by decide
theorem witness_DutifulHostsHaveOneTransactionOutstanding :
    dutiful Session.idle ([.request 0x86 0 false] ++ .send :: [.reply 0x86 readFrame 9, .request 0x87 0 false, .send, .giveUp])
      = true ∧
    dutiful Session.idle [.request 0x88 999 false, .send] = false ∧
    dutiful Session.idle [.request 0x86 0 false, .send, .send] = false ∧
    dutiful Session.idle [.request 0x86 0 false, .send, .reply 0x87 readFrame 9] = false := by decide
theorem witness_RequestsFollowTheirRules :
    (999 : Half).toNat < 1000 ∧ 1000 ≤ (1000 : Half).toNat ∧ (1999 : Half) ≠ 2000 ∧ (1999 : Half) ≠ 5000 ∧
    (5001 : Half) ≠ 2000 ∧ (5001 : Half) ≠ 5000 := by decide
/-- Both sides of each clause occur: undriven at reset, driven in the second state. -/
theorem witness_OutputsAreSpecifiedExactlyWhileTheirInputsAreDriven :
    (State.reset.cksOutcome = none ∧ State.reset.encOutcome = none ∧ State.reset.decOutcome = none ∧
      State.reset.reqOutcome = none ∧ State.reset.resOutcome = none) ∧
    let s := { awaitingRead with rxFrame := some readFrame, rxLen := some 9, cmdOp := some 0x86, encCmd := some 0x86,
                                 encPlen := some 0, cksB := some ⟨1, 0x86, 0, 0, 0, 0, 0⟩ }
    s.cksOutcome ≠ none ∧ s.encOutcome ≠ none ∧ s.decOutcome ≠ none ∧ s.reqOutcome ≠ none ∧ s.resOutcome ≠ none := by decide
/-- R111: a short input is no decided outcome of DEC while `exp_en` is not driven, nor while `exp_cmd` is not and
`exp_en` is 1. -/
theorem test_dec_unspecified_while_exp_undriven :
    ({ State.reset with rxFrame := some readFrame, rxLen := some 3 } : State).decOutcome = none ∧
    ({ State.reset with rxFrame := some readFrame, rxLen := some 3, expEn := some true } : State).decOutcome = none := by
  decide
theorem witness_IgnoredInputsNeedNotBeDriven :
    let s := { State.reset with rxLen := some 8, expEn := some false, rspOp := some 0x86, cmdOp := some 0x87,
                                encCmd := some 0x86, encPlen := some 0 }
    s.rxLen = some 8 ∧ (8 : BitVec 4).toNat < 9 ∧ s.expEn = some false ∧ s.rspOp = some 0x86 ∧ s.cmdOp = some 0x87 ∧
    s.encCmd = some 0x86 ∧ s.encPlen = some 0 ∧
    ({ s with rspOp := some 0x85, rxLen := none } : State).rspOp = some 0x85 ∧
    ({ s with rxFrame := some readFrame, rxLen := some 9 } : State).rxFrame = some readFrame ∧
    awaitingRead.expEn = some true ∧ awaitingRead.expCmd ≠ none := by decide
theorem witness_DrivingTheExpectationChangesOnlyItsPorts :
    let s := { State.reset with rxFrame := some readFrame, rxLen := some 9 }
    s.rxFrame = some readFrame ∧ s.rxLen = some 9 := by decide

end Sys2Proof.Tests
end

section
/-! SUPPORT. The status wires, the inputs a unit reads and those it ignores (10_state.md R10, R15, R19), and the three
obligations about them. -/

namespace Sys2Proof.Machine

variable {s s' : State}

/-! ### The status wires follow the outcome (10_state.md R15) -/

/-- Code 0 is kept for `Ok` (60_exceptions.md R97). -/
theorem Err.code_ne_zero (e : Err) : e.code ≠ 0 := by
  cases e <;> decide

theorem State.decWires_of_outcome {r : UnitResult Decoded} (h : s.decOutcome = some r) :
    s.decWires = decWiresOf r := by
  rw [State.decWires, h]

theorem State.reqWires_of_outcome {r : UnitResult Frame} (h : s.reqOutcome = some r) :
    s.reqWires = reqWiresOf r := by
  rw [State.reqWires, h]

theorem State.resWires_of_outcome {r : UnitResult Reply} (h : s.resOutcome = some r) :
    s.resWires = resWiresOf r := by
  rw [State.resWires, h]

/-! ### An outcome is a function of its unit's inputs (10_state.md R10) -/

theorem State.cksOutcome_congr (hb : s.cksB = s'.cksB) : s.cksOutcome = s'.cksOutcome := by
  rw [State.cksOutcome, hb, State.cksOutcome]

theorem State.encOutcome_congr (hc : s.encCmd = s'.encCmd) (hn : s.encPlen = s'.encPlen) (hp : s.encP = s'.encP) :
    s.encOutcome = s'.encOutcome := by
  rw [State.encOutcome, hc, hn, hp, State.encOutcome]

theorem State.parseOutcome_congr (hf : s.rxFrame = s'.rxFrame) (hl : s.rxLen = s'.rxLen) :
    s.parseOutcome = s'.parseOutcome := by
  rw [State.parseOutcome, hf, hl, State.parseOutcome]

theorem State.echoInputs_congr (he : s.expEn = s'.expEn) (hc : s.expCmd = s'.expCmd) :
    s.echoInputs = s'.echoInputs := by
  rw [State.echoInputs, he, hc, State.echoInputs]

/-- DEC reads its ports only through PARSE and the echo check. -/
theorem State.decOutcome_congr (hp : s.parseOutcome = s'.parseOutcome) (he : s.echoInputs = s'.echoInputs) :
    s.decOutcome = s'.decOutcome := by
  rw [State.decOutcome, hp, he, State.decOutcome]

theorem State.reqOutcome_congr (ho : s.cmdOp = s'.cmdOp) (ha : s.cmdArg = s'.cmdArg) (hf : s.cmdFlag = s'.cmdFlag) :
    s.reqOutcome = s'.reqOutcome := by
  rw [State.reqOutcome, ho, ha, hf, State.reqOutcome]

theorem State.resOutcome_congr (ho : s.rspOp = s'.rspOp) (hf : s.rxFrame = s'.rxFrame) (hl : s.rxLen = s'.rxLen) :
    s.resOutcome = s'.resOutcome := by
  rw [State.resOutcome, ho, hf, hl, State.resOutcome]

/-! ### Ignored inputs (10_state.md R19) -/

/-- A payload lane counts only below `enc_plen` (41_encoder.md R55). -/
theorem paddedByte_congr {n : BitVec 3} {i : Nat} {x y : Byte} (h : i < n.toNat → x = y) :
    paddedByte n i x = paddedByte n i y :=
  if_ctx_congr Iff.rfl h fun _ => rfl

/-- BUILD reads the payload only through its padding. -/
theorem build_congr {n : BitVec 3} {p p' : Payload} (c : Byte) (h : padded n p = padded n p') :
    build c n p = build c n p' := by
  rw [build, h, build]

/-- With the echo check off, DEC is PARSE and then the fields (42_decoder.md R67). -/
theorem finishDec_of_echo_off (p : Parsed) (c : Byte) : finishDec p false c = .ok (decodedOf p) := by
  simp [finishDec, echo]

theorem dec_congr_of_echo_off (f : Frame) (len : BitVec 4) (c c' : Byte) : dec f len false c = dec f len false c' := by
  simp only [dec, finishDec_of_echo_off]

/-- A short input fails the first test of PARSE, before a lane is read (42_decoder.md R62). -/
theorem parse_of_short {len : BitVec 4} (f : Frame) (h : len.toNat < 9) : parse f len = .err .badLength :=
  if_pos (decide_eq_true h)

theorem dec_of_short {len : BitVec 4} (f : Frame) (en : Bool) (c : Byte) (h : len.toNat < 9) :
    dec f len en c = .err .badLength := by
  simp only [dec, parse_of_short f h, raise]

theorem response_congr_of_short {len : BitVec 4} (op : Byte) (f f' : Frame) (h : len.toNat < 9) :
    response op f len = response op f' len := by
  simp only [response, dec_of_short _ _ _ h]

/-- The request half reads `cmd_flag` under 0x79 alone (43_commands.md R84). -/
theorem request_congr_flag {op : Byte} (arg : Half) (flag flag' : Bool) (h : op ≠ Config.cmdAbc) :
    request op arg flag = request op arg flag' := by
  simp only [request, if_neg h]

/-- An unknown operation code is refused whatever the operands are (43_commands.md R88). -/
theorem request_of_unknown {op : Byte} (arg : Half) (flag : Bool) (h : isCommandCode op = false) :
    request op arg flag = .err .invalidArgument := by
  simp only [isCommandCode, Bool.or_eq_false_iff, beq_eq_false_iff_ne] at h
  obtain ⟨⟨⟨⟨hread, hzero⟩, hspan⟩, habc⟩, hrange⟩ := h
  rw [request, if_neg hread, if_neg hzero, if_neg hspan, if_neg habc, if_neg hrange, raise]

end Sys2Proof.Machine

namespace Sys2Proof

open Machine

/-- Settles O37: each ignored input falls away in the one operation that could read it. -/
theorem ignoredInputsHaveNoEffect : Obligations.IgnoredInputsHaveNoEffect := by
  refine ⟨?lanes, fun f len => dec_congr_of_echo_off f len, ?short, ?arg, ?flag, ?unknown⟩
  case lanes =>
    intro cmd plen p p' h0 h1 h2 h3
    exact build_congr cmd (Payload.ext (paddedByte_congr h0) (paddedByte_congr h1) (paddedByte_congr h2)
      (paddedByte_congr h3))
  case short =>
    intro f f' len en c op h
    exact ⟨(dec_of_short f en c h).trans (dec_of_short f' en c h).symm, response_congr_of_short op f f' h⟩
  case arg =>
    rintro op arg arg' flag (rfl | rfl | rfl) <;> rfl
  case flag =>
    exact fun _ arg flag flag' h => request_congr_flag arg flag flag' h
  case unknown =>
    exact fun _ arg arg' flag flag' h => (request_of_unknown arg flag h).trans (request_of_unknown arg' flag' h).symm

/-- Settles O18: in a state whose outcome is decided the wires are a function of the outcome. -/
theorem statusWiresTellTheOutcome : Obligations.StatusWiresTellTheOutcome :=
  ⟨fun _ e h => ⟨State.decWires_of_outcome h, e.code_ne_zero⟩,
    fun _ _ h => State.decWires_of_outcome h,
    fun _ e h => ⟨State.reqWires_of_outcome h, e.code_ne_zero⟩,
    fun _ _ h => State.reqWires_of_outcome h,
    fun _ e h => ⟨State.resWires_of_outcome h, e.code_ne_zero⟩,
    fun _ _ h => State.resWires_of_outcome h,
    fun _ h => State.resWires_of_outcome h,
    fun _ _ _ h h' => (State.decWires_of_outcome h).trans (State.decWires_of_outcome h').symm,
    fun _ _ _ h h' => (State.reqWires_of_outcome h).trans (State.reqWires_of_outcome h').symm,
    fun _ _ _ h h' => (State.resWires_of_outcome h).trans (State.resWires_of_outcome h').symm⟩

/-- Settles O38: each outcome reads its own unit's ports only, and with them driven it is the unit's function. -/
theorem outputsAreFunctionsOfPresentInputs : Obligations.OutputsAreFunctionsOfPresentInputs := by
  intro s s'
  exact ⟨State.cksOutcome_congr, State.encOutcome_congr,
    fun hf hl he hc => State.decOutcome_congr (State.parseOutcome_congr hf hl) (State.echoInputs_congr he hc),
    State.reqOutcome_congr, State.resOutcome_congr,
    fun _ _ _ _ hf hl he hc => s.driven_decOutcome hf hl he hc,
    fun _ _ _ ho ha hf => s.driven_reqOutcome ho ha hf,
    fun _ _ _ hf hl ho => s.driven_resOutcome hf hl ho⟩

end Sys2Proof
end

section
/-! SUPPORT. The checksum's formula, its truncation and its port (40_checksum.md R45, R46, R50), and the two obligations
about them. -/

namespace Sys2Proof.Machine

variable (b1 b2 b3 b4 b5 b6 b7 : Byte)

/-! ### The value of CKS -/

/-- R45's formula, the truncation to 8 bits written as a remainder. -/
theorem cks_toNat_eq_formula :
    (cks b1 b2 b3 b4 b5 b6 b7).toNat = (0xFF - byteSum b1 b2 b3 b4 b5 b6 b7 % 256 + 1) % 256 := by
  rw [cks, BitVec.toNat_ofNat]

/-- Accumulating in 8 bits with wrap-around truncates the sum (40_checksum.md R46 (d)). -/
theorem ofNat_byteSum :
    BitVec.ofNat 8 (byteSum b1 b2 b3 b4 b5 b6 b7) = b1 + b2 + b3 + b4 + b5 + b6 + b7 := by
  simp only [byteSum, BitVec.ofNat_add, BitVec.ofNat_toNat, BitVec.setWidth_eq]

/-- CKS is the two's complement of the sum taken in 8 bits (40_checksum.md R46 (b)). -/
theorem cks_eq_neg : cks b1 b2 b3 b4 b5 b6 b7 = -(b1 + b2 + b3 + b4 + b5 + b6 + b7) := by
  rw [← ofNat_byteSum, ← BitVec.toNat_inj, cks_toNat, BitVec.toNat_neg, BitVec.toNat_ofNat]

section

variable {b1 b2 b3 b4 b5 b6 b7}

/-- The truncated case of R50. -/
theorem cks_of_byteSum_mod_eq_zero (h : byteSum b1 b2 b3 b4 b5 b6 b7 % 256 = 0) :
    cks b1 b2 b3 b4 b5 b6 b7 = 0 := by
  rw [cks, h]
  rfl

/-- The case of R50 in which nothing is truncated. -/
theorem cks_toNat_of_byteSum_mod_ne_zero (h : byteSum b1 b2 b3 b4 b5 b6 b7 % 256 ≠ 0) :
    (cks b1 b2 b3 b4 b5 b6 b7).toNat = 256 - byteSum b1 b2 b3 b4 b5 b6 b7 % 256 := by
  rw [cks_toNat, Nat.mod_eq_of_lt (Nat.sub_lt (by decide) (Nat.pos_of_ne_zero h))]

end

/-! ### CKS on its port -/

theorem State.cksOut_of_outcome {s : State} {k : Byte} (h : s.cksOutcome = some k) : s.cksOut = k := by
  rw [State.cksOut, h, Option.getD_some]

/-- The host's act on CKS drives its port and records the checksum of what is driven. -/
theorem applyAct_checksum (b : Covered) (s : State) :
    applyAct (.checksum b) s = .next ((s.driveCks b).record (.checksum (some (cksOf b)))) := rfl

end Sys2Proof.Machine

namespace Sys2Proof

open Machine

/-- Settles O1: CKS truncates R45's formula, which negates the sum in 8 bits, and its act puts it on the port. -/
theorem checksumFollowsItsFormula : Obligations.ChecksumFollowsItsFormula := by
  refine ⟨?value, ?port, by decide⟩
  case value =>
    intro b1 b2 b3 b4 b5 b6 b7
    exact ⟨byteSum_le b1 b2 b3 b4 b5 b6 b7, cks_toNat_eq_formula b1 b2 b3 b4 b5 b6 b7, cks_toNat b1 b2 b3 b4 b5 b6 b7,
      cks_eq_neg b1 b2 b3 b4 b5 b6 b7⟩
  case port =>
    intro b s
    exact ⟨_, applyAct_checksum b s, State.cksOut_of_outcome (State.driveCks_cksOutcome s b), rfl⟩

/-- Settles O3: the remainder of the sum is 0, where the formula gives 0x100, or it lies between 1 and 255. -/
theorem checksumTruncatesOnlyAtMultiplesOf256 : Obligations.ChecksumTruncatesOnlyAtMultiplesOf256 := by
  refine ⟨?value, byteSum_le, by decide, by decide, by decide, by decide⟩
  intro b1 b2 b3 b4 b5 b6 b7 s
  have hs : s < 256 := Nat.mod_lt _ (by decide)
  refine ⟨Nat.le_of_lt_succ hs, fun h0 => ⟨?top, cks_of_byteSum_mod_eq_zero h0⟩,
    fun hne => ⟨?low, cks_toNat_of_byteSum_mod_ne_zero hne, ?range⟩⟩
  case top => rw [h0]
  case low => exact Nat.pos_of_ne_zero hne
  case range => omega

end Sys2Proof
end

section
/-! SUPPORT. ENC on its ports, its padding at full length and the checksum it appends (41_encoder.md R53, R54, R57), and
the three obligations about them. -/

namespace Sys2Proof.Machine

/-! ### ENC on its ports -/

theorem State.txFrame_of_outcome {s : State} {f : Frame} (h : s.encOutcome = some f) : s.txFrame = f := by
  rw [State.txFrame, h, Option.getD_some]

/-- The host's act on ENC drives its ports and records what BUILD makes of them. -/
theorem applyAct_build (cmd : Byte) (plen : BitVec 3) (p : Payload) (s : State) :
    applyAct (.build cmd plen p) s = .next ((s.driveEnc cmd plen p).record (.built (some (build cmd plen p)))) := by
  rw [applyAct, State.sampleBuilt_eq, State.driveEnc_encOutcome]

/-- After the act, `tx_frame` is BUILD of the driven ports. -/
theorem State.txFrame_record_driveEnc (s : State) (cmd : Byte) (plen : BitVec 3) (p : Payload) (x : Sampled) :
    ((s.driveEnc cmd plen p).record x).txFrame = build cmd plen p :=
  State.txFrame_of_outcome (State.driveEnc_encOutcome s cmd plen p)

/-! ### Padding at full length -/

theorem paddedByte_of_lt {n : BitVec 3} {i : Nat} (lane : Byte) (h : i < n.toNat) : paddedByte n i lane = lane :=
  if_pos h

/-- From `enc_plen` 4 on, every lane is used (41_encoder.md R57). -/
theorem padded_of_four_le {n : BitVec 3} (p : Payload) (h : 4 ≤ n.toNat) : padded n p = p :=
  Payload.ext (paddedByte_of_lt _ (by omega)) (paddedByte_of_lt _ (by omega)) (paddedByte_of_lt _ (by omega))
    (paddedByte_of_lt _ (by omega))

/-- From `enc_plen` 4 on, BUILD is BUILD of length 4 (41_encoder.md R57). -/
theorem build_of_four_le {n : BitVec 3} (cmd : Byte) (p : Payload) (h : 4 ≤ n.toNat) : build cmd n p = build cmd 4 p := by
  rw [build, padded_of_four_le p h, build, padded_of_four_le p (le_refl 4)]

/-! ### The checksum BUILD appends -/

/-- VERIFY8 accepts every frame ENC produces (41_encoder.md R54). -/
@[simp] theorem build_validChecksum (cmd : Byte) (plen : BitVec 3) (p : Payload) :
    validChecksum (build cmd plen p) = true :=
  (validChecksum_iff _).mpr (build_b8 cmd plen p)

end Sys2Proof.Machine

namespace Sys2Proof

open Machine

/-- Settles O8: the act records BUILD of the driven ports, and BUILD's frame is R53's list of bytes. -/
theorem buildLaysOutTheCommandFrame : Obligations.BuildLaysOutTheCommandFrame := by
  refine ⟨?ports, by decide⟩
  intro cmd plen p s _ q0 q1 q2 q3 frame
  have hframe : build cmd plen p = frame := rfl
  rw [applyAct_build, ← hframe]
  exact ⟨_, rfl, State.txFrame_record_driveEnc s cmd plen p _, rfl⟩

/-- Settles O9: above 4 the padding keeps every lane, as it does at 4. -/
theorem payloadLengthsAboveFourActAsFour : Obligations.PayloadLengthsAboveFourActAsFour := by
  intro cmd plen p s h
  have htx : build cmd plen p = build cmd 4 p := build_of_four_le cmd p h.le
  have hlanes : padded 4 p = p := padded_of_four_le p (le_refl 4)
  refine ⟨_, applyAct_build cmd plen p s, (State.txFrame_record_driveEnc s cmd plen p _).trans htx, ?_⟩
  rw [build_b3, build_b4, build_b5, build_b6, hlanes]
  exact ⟨rfl, rfl, rfl, rfl⟩

/-- Settles O10: each byte of BUILD's frame by its own lemma, and CKS appends what VERIFY8 accepts. -/
theorem everyBuiltFrameIsWellFormed : Obligations.EveryBuiltFrameIsWellFormed :=
  fun cmd plen p => ⟨rfl, build_b0 cmd plen p, build_b1 cmd plen p, build_b2 cmd plen p, build_b7 cmd plen p,
    build_b8 cmd plen p, build_validChecksum cmd plen p⟩

end Sys2Proof
end

section
/-! SUPPORT. PARSE, ECHO and DEC test by test, the length they read, and the concentration (42_decoder.md R61 to R70),
and the five obligations about them. -/

namespace Sys2Proof.Machine

variable {f : Frame} {len : BitVec 4} {en : Bool} {c : Byte} {p : Parsed} {e : Err}

/-! ### PARSE, the first failing test by itself -/

theorem tooShort_of_nine_le (h : 9 ≤ len.toNat) : tooShort len = false :=
  decide_eq_false (Nat.not_lt.mpr h)

theorem parse_of_badStart (hl : 9 ≤ len.toNat) (hs : f.b0 ≠ 0xFF) : parse f len = .err .badStart := by
  rw [parse, tooShort_of_nine_le hl, if_neg Bool.false_ne_true, if_pos hs, raise]

/-- With length and start byte right, VERIFY8 decides (42_decoder.md R65, R66). -/
theorem parse_of_start (hl : 9 ≤ len.toNat) (hs : f.b0 = 0xFF) :
    parse f len = if validChecksum f = false then .err .checksumMismatch else .ok ⟨f.b1, f.b2, f.b3⟩ := by
  rw [parse, tooShort_of_nine_le hl, if_neg Bool.false_ne_true, if_neg (not_not.mpr hs), raise]

theorem parse_of_badChecksum (hl : 9 ≤ len.toNat) (hs : f.b0 = 0xFF) (hk : f.b8 ≠ frameCks f) :
    parse f len = .err .checksumMismatch := by
  rw [parse_of_start hl hs, if_pos (Bool.eq_false_iff.mpr (mt (validChecksum_iff f).mp hk))]

theorem parse_of_valid (hl : 9 ≤ len.toNat) (hs : f.b0 = 0xFF) (hk : f.b8 = frameCks f) :
    parse f len = .ok ⟨f.b1, f.b2, f.b3⟩ := by
  rw [parse_of_start hl hs, (validChecksum_iff f).mpr hk, if_neg nofun]

/-- The fields PARSE returns are bytes 1, 2 and 3 (42_decoder.md R66). -/
theorem eq_fields_of_parse_ok (h : parse f len = .ok p) : p = ⟨f.b1, f.b2, f.b3⟩ := by
  rcases parse_cases f len with ⟨_, hp⟩ | ⟨_, _, hp⟩ | ⟨_, _, _, hp⟩ | ⟨_, _, _, hp⟩
  · cases hp.symm.trans h
  · cases hp.symm.trans h
  · cases hp.symm.trans h
  · exact UnitResult.ok.inj (h.symm.trans hp)

/-- PARSE leaves the echo to ECHO (42_decoder.md R67). -/
theorem parse_ne_unexpectedCommand (f : Frame) (len : BitVec 4) : parse f len ≠ .err .unexpectedCommand := by
  rcases parse_cases f len with ⟨_, hp⟩ | ⟨_, _, hp⟩ | ⟨_, _, _, hp⟩ | ⟨_, _, _, hp⟩ <;> rw [hp] <;> nofun

/-! ### DEC is PARSE and then ECHO (42_decoder.md R67, R68) -/

theorem dec_of_parse_err (h : parse f len = .err e) : dec f len en c = .err e := by
  simp only [dec, h, raise]

theorem dec_of_echo_mismatch (h : parse f len = .ok p) (hen : en = true) (hc : p.commandCode ≠ c) :
    dec f len en c = .err .unexpectedCommand := by
  simp only [dec, h, finishDec, echo, if_pos (And.intro hen hc), raise]

theorem dec_of_echo_pass (h : parse f len = .ok p) (hc : ¬(en = true ∧ p.commandCode ≠ c)) :
    dec f len en c = .ok (decodedOf p) := by
  simp only [dec, h, finishDec, echo, if_neg hc]

/-- With the echo check off, only PARSE's errors are left. -/
theorem dec_echo_off_ne_unexpectedCommand (f : Frame) (len : BitVec 4) (c : Byte) :
    dec f len false c ≠ .err .unexpectedCommand := by
  rcases hp : parse f len with p | e
  · rw [dec_of_echo_pass hp (by simp)]
    nofun
  · rw [dec_of_parse_err hp]
    exact fun he => parse_ne_unexpectedCommand f len (UnitResult.err.inj he ▸ hp)

/-- DEC's four tests in their order, each failing with its own error (42_decoder.md R70). -/
theorem dec_eq_tests (f : Frame) (len : BitVec 4) (en : Bool) (c : Byte) :
    dec f len en c =
      if len.toNat < 9 then .err .badLength
      else if f.b0 ≠ 0xFF then .err .badStart
      else if f.b8 ≠ frameCks f then .err .checksumMismatch
      else if en = true ∧ f.b1 ≠ c then .err .unexpectedCommand
      else .ok (decodedOf ⟨f.b1, f.b2, f.b3⟩) := by
  rcases parse_cases f len with ⟨hl, hp⟩ | ⟨hl, hs, hp⟩ | ⟨hl, hs, hk, hp⟩ | ⟨hl, hs, hk, hp⟩
  · rw [if_pos hl, dec_of_parse_err hp]
  · rw [if_neg hl.not_gt, if_pos hs, dec_of_parse_err hp]
  · rw [if_neg hl.not_gt, if_neg (not_not.mpr hs), if_pos hk, dec_of_parse_err hp]
  · rw [if_neg hl.not_gt, if_neg (not_not.mpr hs), if_neg (not_not.mpr hk)]
    split_ifs with he
    · exact dec_of_echo_mismatch hp he.1 he.2
    · exact dec_of_echo_pass hp he

theorem eq_decodedOf_of_dec_ok {d : Decoded} (h : dec f len en c = .ok d) : d = decodedOf ⟨f.b1, f.b2, f.b3⟩ := by
  rcases dec_cases f len en c with ⟨_, _, hd⟩ | ⟨_, _, _, _, hd⟩ | ⟨p, hp, _, hd⟩
  · cases hd.symm.trans h
  · cases hd.symm.trans h
  · rw [UnitResult.ok.inj (h.symm.trans hd), eq_fields_of_parse_ok hp]

/-- An acknowledgement reports no error but DEC's (43_commands.md R81). -/
theorem ackReply_ne_err {r : UnitResult Decoded} (h : r ≠ .err e) : ackReply r ≠ .err e := by
  cases r with
  | ok d => nofun
  | err e' => exact fun he => h (by rw [UnitResult.err.inj he])

/-! ### The length is read by the length test alone (42_decoder.md R63) -/

theorem parse_congr_len {len' : BitVec 4} (f : Frame) (h : tooShort len = tooShort len') :
    parse f len = parse f len' := by
  rw [parse, h, parse]

theorem dec_congr_parse {len' : BitVec 4} (en : Bool) (c : Byte) (h : parse f len = parse f len') :
    dec f len en c = dec f len' en c := by
  rw [dec, h, dec]

theorem response_congr_parse {len' : BitVec 4} (op : Byte) (h : parse f len = parse f len') :
    response op f len = response op f len' := by
  simp only [response, dec_congr_parse _ _ h]

/-! ### The concentration (42_decoder.md R69) -/

theorem ppmOf_toNat (h l : Byte) : (ppmOf h l).toNat = h.toNat * 256 + l.toNat := by
  rw [ppmOf, joinBytes, BitVec.toNat_append, ← Nat.shiftLeft_add_eq_or_of_lt l.isLt, Nat.shiftLeft_eq]

/-- A 16-bit value is its high byte followed by its low byte (20_memory.md R22). -/
theorem joinBytes_hiByte_loByte (v : Half) : joinBytes (hiByte v) (loByte v) = v :=
  (BitVec.extractLsb'_append_extractLsb'_eq_extractLsb' rfl).trans BitVec.extractLsb'_eq_self

/-- A reply to READ_CO2 that carries the concentration `v`, its reserved bytes zero (30_encoding.md R31). -/
def concentrationReply (v : Half) : Frame :=
  responseFrame 0x86 (hiByte v) (loByte v) 0 0 0 0 (cks 0x86 (hiByte v) (loByte v) 0 0 0 0)

/-- The command layer delivers the concentration such a reply carries, whatever it is. -/
theorem response_concentrationReply (v : Half) : response 0x86 (concentrationReply v) 9 = .ok (.ppm v) := by
  have hp : parse (concentrationReply v) 9 = .ok ⟨0x86, hiByte v, loByte v⟩ := parse_of_valid (le_refl 9) rfl rfl
  have hd : dec (concentrationReply v) 9 true 0x86 = .ok ⟨0x86, hiByte v, loByte v, v⟩ := by
    rw [dec_of_echo_pass hp fun h => h.2 rfl, decodedOf, ppmOf, joinBytes_hiByte_loByte]
  calc response 0x86 (concentrationReply v) 9
    _ = ppmReply (dec (concentrationReply v) 9 true 0x86) := rfl
    _ = .ok (.ppm v) := by rw [hd, ppmReply]

end Sys2Proof.Machine

namespace Sys2Proof

open Machine

/-- Settles O12: each condition decides its own outcome of PARSE, and a short input decides DEC's outcome and wires. -/
theorem parseOutcomeByCondition : Obligations.ParseOutcomeByCondition := by
  refine ⟨fun f len => ⟨parse_of_short f, parse_of_badStart, parse_of_badChecksum, parse_of_valid⟩, ?short, by decide⟩
  intro s f len en c hf hl he hc hshort
  have hd : s.decOutcome = some (.err .badLength) := by
    rw [s.driven_decOutcome hf hl he hc, dec_of_short f en c hshort]
  exact ⟨hd, State.decWires_of_outcome hd⟩

/-- Settles O13: the length reaches PARSE through its first test alone, and DEC and the response half through PARSE. -/
theorem lengthsAboveNineActAsNine : Obligations.LengthsAboveNineActAsNine := by
  intro f len en c op h
  have hp : parse f len = parse f 9 := parse_congr_len f (tooShort_of_nine_le h.le)
  exact ⟨hp, dec_congr_parse en c hp, response_congr_parse op hp⟩

/-- Settles O14: each outcome of DEC's chain of tests is reached in one case only. -/
theorem firstFailingTestDecidesTheOutcome : Obligations.FirstFailingTestDecidesTheOutcome := by
  intro f len en c short badStart badSum badEcho
  have hd : dec f len en c =
      if short then .err .badLength else if badStart then .err .badStart else if badSum then .err .checksumMismatch
      else if badEcho then .err .unexpectedCommand else .ok ⟨f.b1, f.b2, f.b3, f.b2 ++ f.b3⟩ :=
    dec_eq_tests f len en c
  rw [hd]
  split_ifs with hl hs hk he
  · simp [hl]
  · simp [hl, hs]
  · simp [hl, hs, hk]
  · simp [hl, hs, hk, he]
  · simp [hl, hs, hk, he]

/-- Settles O16: DEC is PARSE and then ECHO, which the response half enables under 0x86 and under no other code. -/
theorem echoCheckOnlyWhenEnabled : Obligations.EchoCheckOnlyWhenEnabled := by
  refine ⟨fun f len en c p hp => ⟨dec_of_echo_mismatch hp, fun hpass => dec_of_echo_pass hp ?pass⟩,
    fun f len en c e => dec_of_parse_err, fun f len => rfl, ?off, by decide⟩
  case pass =>
    rintro ⟨hen, hne⟩
    rcases hpass with rfl | heq
    · cases hen
    · exact hne heq
  case off =>
    intro op f len hop
    have hack : response op f len = ackReply (dec f len false 0) := by
      rcases hop with rfl | rfl | rfl | rfl <;> rfl
    refine ⟨hack, ?_⟩
    rw [hack]
    exact ackReply_ne_err (dec_echo_off_ne_unexpectedCommand f len 0)

/-- Settles O17: DEC's concentration is the pair it parsed, and a reply can carry any pair. -/
theorem concentrationIsTheBigEndianPair : Obligations.ConcentrationIsTheBigEndianPair := by
  refine ⟨fun h l => ⟨ppmOf_toNat h l, Nat.le_of_lt_succ (ppmOf h l).isLt⟩, ?delivered,
    fun v => ⟨concentrationReply v, response_concentrationReply v⟩, by decide⟩
  intro f len en c d hd
  rw [hd, eq_decodedOf_of_dec_ok hd]
  exact ⟨ppmOf_toNat f.b2 f.b3, rfl⟩

end Sys2Proof
end

section
/-! SUPPORT. The request half command by command, what its act does to the ports, and what a transaction makes of a
refused request (43_commands.md R76 to R88, R91), and the two obligations about them. -/

namespace Sys2Proof.Machine

variable {op : Byte} {arg : Half}

/-! ### The frame or the refusal of each command -/

theorem request_read (arg : Half) (flag : Bool) :
    request 0x86 arg flag = .ok ⟨0xFF, 0x01, 0x86, 0, 0, 0, 0, 0, 0x79⟩ := rfl

theorem request_zero (arg : Half) (flag : Bool) :
    request 0x87 arg flag = .ok ⟨0xFF, 0x01, 0x87, 0, 0, 0, 0, 0, 0x78⟩ := rfl

theorem request_abc_on (arg : Half) : request 0x79 arg true = .ok ⟨0xFF, 0x01, 0x79, 0xA0, 0, 0, 0, 0, 0xE6⟩ := rfl

theorem request_abc_off (arg : Half) : request 0x79 arg false = .ok ⟨0xFF, 0x01, 0x79, 0x00, 0, 0, 0, 0, 0x86⟩ := rfl

theorem request_range_low (flag : Bool) :
    request 0x99 2000 flag = .ok ⟨0xFF, 0x01, 0x99, 0x07, 0xD0, 0, 0, 0, 0x8F⟩ := rfl

theorem request_range_high (flag : Bool) :
    request 0x99 5000 flag = .ok ⟨0xFF, 0x01, 0x99, 0x13, 0x88, 0, 0, 0, 0xCB⟩ := rfl

theorem request_range_of_illegal (flag : Bool) (hlow : arg ≠ 2000) (hhigh : arg ≠ 5000) :
    request 0x99 arg flag = .err .invalidArgument := by
  have hr : rangeLegal arg = false := Bool.or_eq_false_iff.mpr ⟨beq_false_of_ne hlow, beq_false_of_ne hhigh⟩
  simp [request, hr, raise]

theorem request_span_of_low (flag : Bool) (h : arg.toNat < 1000) : request 0x88 arg flag = .err .invalidArgument := by
  have hs : spanLegal arg = false := decide_eq_false (Nat.not_le.mpr h)
  simp [request, hs, raise]

/-- The high byte is the quotient by 256 (20_memory.md R22). -/
theorem hiByte_eq_ofNat (v : Half) : hiByte v = BitVec.ofNat 8 (v.toNat / 256) := by
  rw [hiByte, BitVec.extractLsb', Nat.shiftRight_eq_div_pow]

/-- The low byte is the remainder by 256 (20_memory.md R22). -/
theorem loByte_eq_ofNat (v : Half) : loByte v = BitVec.ofNat 8 (v.toNat % 256) := by
  rw [← BitVec.toNat_inj, loByte, BitVec.extractLsb'_toNat, BitVec.toNat_ofNat, Nat.shiftRight_zero, Nat.mod_mod]

/-- CAL_SPAN's frame: the target big-endian, the checksum two's complement (43_commands.md R82). -/
theorem build_span (v : Half) :
    build 0x88 2 (halfPayload v) =
      ⟨0xFF, 0x01, 0x88, hiByte v, loByte v, 0, 0, 0, 0x77 - hiByte v - loByte v⟩ := by
  have hk : cks 0x01 0x88 (hiByte v) (loByte v) 0 0 0 = 0x77 - hiByte v - loByte v := by
    rw [cks_eq_neg]
    bv_omega
  rw [← hk]
  rfl

theorem request_span_of_legal (flag : Bool) (h : 1000 ≤ arg.toNat) :
    request 0x88 arg flag =
      .ok ⟨0xFF, 0x01, 0x88, hiByte arg, loByte arg, 0, 0, 0, 0x77 - hiByte arg - loByte arg⟩ := by
  have hs : spanLegal arg = true := decide_eq_true h
  rw [← build_span]
  simp [request, hs]

/-- InvalidArgument is the only error of the request half (60_exceptions.md R98). -/
theorem eq_invalidArgument_of_request_err {flag : Bool} {e : Err} (h : request op arg flag = .err e) :
    e = .invalidArgument := by
  rcases request_cases op arg flag with
    ⟨_, hr⟩ | ⟨_, hr⟩ | ⟨_, _, hr⟩ | ⟨_, _, hr⟩ | ⟨_, hr⟩ | ⟨_, _, hr⟩ | ⟨_, _, hr⟩ | ⟨_, hr⟩ <;>
    cases hr.symm.trans h <;> rfl

/-! ### The request half's act -/

/-- The host's act on the request half drives its three ports and records what REQUEST makes of them; the wires carry
it. -/
theorem applyAct_request (op : Byte) (arg : Half) (flag : Bool) (s : State) :
    ∃ t, applyAct (.request op arg flag) s = .next t ∧
      t = { s with cmdOp := some op, cmdArg := some arg, cmdFlag := some flag,
                   outcomes := s.outcomes ++ [.request t.reqOutcome] } ∧
      t.reqWires = reqWiresOf (request op arg flag) :=
  ⟨_, rfl, rfl, State.reqWires_of_outcome (State.driven_reqOutcome _ rfl rfl rfl)⟩

/-! ### A refused request and the link (43_commands.md R91) -/

theorem sentToLink_of_request_err {flag : Bool} {e : Err} (h : request op arg flag = .err e) (link : Link) :
    sentToLink op arg flag link = false := by
  simp only [sentToLink, h]

theorem transaction_of_request_err {flag : Bool} {e : Err} (h : request op arg flag = .err e) (link : Link) :
    transaction op arg flag link = .refused e := by
  simp only [transaction, h]

/-- What InvalidArgument looks like from outside: `req_err` 5 with nine zero bytes, and no write (60_exceptions.md R98). -/
theorem refused_of_request_err {flag : Bool} (h : request op arg flag = .err .invalidArgument) :
    reqWiresOf (request op arg flag) = ⟨false, 5, ⟨0, 0, 0, 0, 0, 0, 0, 0, 0⟩⟩ ∧
      ∀ link, sentToLink op arg flag link = false :=
  ⟨by rw [h]; rfl, sentToLink_of_request_err h⟩

end Sys2Proof.Machine

namespace Sys2Proof

open Machine

/-- Settles O56: the act's wires are those of REQUEST on the driven ports, which each clause reads off its own command. -/
theorem requestsFollowTheirRules : Obligations.RequestsFollowTheirRules := by
  intro s op arg flag hi lo refused
  obtain ⟨t, ht, hframe, hwires⟩ := applyAct_request op arg flag s
  refine ⟨t, ht, hframe, ?_⟩
  rw [hwires]
  refine ⟨?read, ?zero, ?spanLow, ?spanLegal, ?abcOn, ?abcOff, ?rangeLow, ?rangeHigh, ?rangeIllegal⟩
  case read => rintro rfl; rw [request_read]; rfl
  case zero => rintro rfl; rw [request_zero]; rfl
  case spanLow =>
    rintro rfl h
    exact refused_of_request_err (request_span_of_low flag h)
  case spanLegal =>
    rintro rfl h
    rw [request_span_of_legal flag h, hiByte_eq_ofNat, loByte_eq_ofNat]
    rfl
  case abcOn => rintro rfl rfl; rw [request_abc_on]; rfl
  case abcOff => rintro rfl rfl; rw [request_abc_off]; rfl
  case rangeLow => rintro rfl rfl; rw [request_range_low]; rfl
  case rangeHigh => rintro rfl rfl; rw [request_range_high]; rfl
  case rangeIllegal =>
    rintro rfl hlow hhigh
    exact refused_of_request_err (request_range_of_illegal flag hlow hhigh)

/-- Settles O53: a refused request never reaches the link, and the link decides what becomes of an accepted one. -/
theorem transactionIsRequestLinkResponse : Obligations.TransactionIsRequestLinkResponse := by
  intro op arg flag
  refine ⟨?refused, ?accepted⟩
  case refused =>
    intro e link h
    rw [transaction_of_request_err h, eq_invalidArgument_of_request_err h]
    exact ⟨rfl, sentToLink_of_request_err h link⟩
  case accepted =>
    intro fr h
    simp only [transaction, sentToLink, h, and_self, implies_true]

end Sys2Proof
end

section
/-! SUPPORT. Received bytes presented to the response half, and its reply as a chain of tests for READ_CO2 and for the
other four commands (43_commands.md R77 to R88), and the three obligations about it. -/

namespace Sys2Proof.Machine

variable {op : Byte} {s : State}

/-! ### Presenting received bytes -/

/-- A format R row presents its frame to DEC and to the response half, whichever code it echoes. -/
theorem exec_decodeResponse (c dh dl r4 r5 r6 r7 k : Byte) (s : State) :
    exec (decodeResponse c dh dl r4 r5 r6 r7 k) s = .next (s.presentRx (responseFrame c dh dl r4 r5 r6 r7 k) 9) := by
  rw [decodeResponse]
  split_ifs with hc
  · subst hc; rfl
  · rfl

/-- Of nine bytes, the start byte alone decides whether they are a format R instruction (30_encoding.md R31, R42). -/
theorem decode_response_toList (f : Frame) :
    decode .response f.toList =
      if f.b0 ≠ Config.start then .error .badStart
      else .ok (decodeResponse f.b1 f.b2 f.b3 f.b4 f.b5 f.b6 f.b7 f.b8, []) := rfl

/-- Received bytes are presented as they are, named by the table or not (42_decoder.md R62, R64). -/
theorem applyAct_receive (f : Frame) (len : BitVec 4) (s : State) :
    applyAct (.receive f len) s = .next (s.presentRx f len) := by
  rw [applyAct, applyReceive, decode_response_toList]
  split_ifs with hl hs
  · rfl
  · have hf : responseFrame f.b1 f.b2 f.b3 f.b4 f.b5 f.b6 f.b7 f.b8 = f :=
      Frame.ext (not_not.mp hs).symm rfl rfl rfl rfl rfl rfl rfl rfl
    exact (exec_decodeResponse ..).trans (by rw [hf, hl])
  · rfl

theorem State.presentRx_resOutcome (f : Frame) (len : BitVec 4) (h : s.rspOp = some op) :
    (s.presentRx f len).resOutcome = some (response op f len) :=
  State.driven_resOutcome _ rfl rfl h

theorem State.presentRx_resWires (f : Frame) (len : BitVec 4) (h : s.rspOp = some op) :
    (s.presentRx f len).resWires = resWiresOf (response op f len) :=
  State.resWires_of_outcome (State.presentRx_resOutcome f len h)

/-! ### The reply as a chain of tests -/

/-- The concentration as a number (42_decoder.md R69). -/
theorem ppmOf_eq_ofNat (h l : Byte) : ppmOf h l = BitVec.ofNat 16 (h.toNat * 256 + l.toNat) := by
  rw [← ppmOf_toNat, BitVec.ofNat_toNat, BitVec.setWidth_eq]

/-- READ_CO2's reply: DEC's four tests with the echo check on, then the concentration (43_commands.md R79). -/
theorem response_read_eq_tests (f : Frame) (len : BitVec 4) :
    response 0x86 f len =
      if len.toNat < 9 then .err .badLength
      else if f.b0 ≠ 0xFF then .err .badStart
      else if f.b8 ≠ frameCks f then .err .checksumMismatch
      else if f.b1 ≠ 0x86 then .err .unexpectedCommand
      else .ok (.ppm (ppmOf f.b2 f.b3)) := by
  have hr : response 0x86 f len = ppmReply (dec f len true 0x86) := rfl
  rw [hr, dec_eq_tests]
  simp only [true_and, apply_ite ppmReply]
  rfl

/-- The other four replies: PARSE's three tests, then the acknowledgement (43_commands.md R81). -/
theorem response_ack_eq_tests (f : Frame) (len : BitVec 4) (hop : op = 0x87 ∨ op = 0x88 ∨ op = 0x79 ∨ op = 0x99) :
    response op f len =
      if len.toNat < 9 then .err .badLength
      else if f.b0 ≠ 0xFF then .err .badStart
      else if f.b8 ≠ frameCks f then .err .checksumMismatch
      else .ok .ack := by
  have hr : response op f len = ackReply (dec f len false 0) := by
    rcases hop with rfl | rfl | rfl | rfl <;> rfl
  rw [hr, dec_eq_tests]
  simp only [Bool.false_eq_true, false_and, if_false, apply_ite ackReply]
  rfl

/-- A full format R frame in answer to READ_CO2: its checksum and its echo are left to test. -/
theorem response_read_responseFrame (c dh dl r4 r5 r6 r7 k : Byte) :
    response 0x86 (responseFrame c dh dl r4 r5 r6 r7 k) 9 =
      if k ≠ cks c dh dl r4 r5 r6 r7 then .err .checksumMismatch
      else if c ≠ 0x86 then .err .unexpectedCommand
      else .ok (.ppm (ppmOf dh dl)) :=
  response_read_eq_tests (responseFrame c dh dl r4 r5 r6 r7 k) 9

/-- No command but READ_CO2 checks the echo (43_commands.md R79). -/
theorem eq_read_of_response_unexpectedCommand {f : Frame} {len : BitVec 4}
    (h : response op f len = .err .unexpectedCommand) : op = 0x86 := by
  rcases response_cases op f len with ⟨hop, _⟩ | ⟨_, _, hr⟩ | ⟨_, hr⟩
  · exact hop
  · exact absurd (hr.symm.trans h) (ackReply_ne_err (dec_echo_off_ne_unexpectedCommand f len 0))
  · cases hr.symm.trans h

/-! ### Operation codes outside the five (43_commands.md R88) -/

theorem isCommandCode_eq_false (hread : op ≠ 0x86) (hzero : op ≠ 0x87) (hspan : op ≠ 0x88) (habc : op ≠ 0x79)
    (hrange : op ≠ 0x99) : isCommandCode op = false := by
  simp only [isCommandCode, Bool.or_eq_false_iff, beq_eq_false_iff_ne]
  exact ⟨⟨⟨⟨hread, hzero⟩, hspan⟩, habc⟩, hrange⟩

theorem response_of_unknown (f : Frame) (len : BitVec 4) (h : isCommandCode op = false) :
    response op f len = .err .invalidArgument := by
  rcases response_cases op f len with ⟨rfl, _⟩ | ⟨_, hop, _⟩ | ⟨_, hr⟩
  · cases h
  · cases h.symm.trans hop
  · exact hr

end Sys2Proof.Machine

namespace Sys2Proof

open Machine

/-- Settles O30: both rows and every presentation reach the response half, whose reply is the chain of four tests. -/
theorem readResponseGivesTheConcentration : Obligations.ReadResponseGivesTheConcentration := by
  refine ⟨?readRow, ?anyRow, ?received, by decide, fun _ _ _ => eq_read_of_response_unexpectedCommand⟩
  case readRow =>
    intro dh dl r4 r5 r6 r7 k s hop
    refine ⟨_, rfl, ?_⟩
    rw [State.presentRx_resWires _ _ hop, response_read_responseFrame]
    by_cases hk : k = cks 0x86 dh dl r4 r5 r6 r7
    · rw [if_neg (not_not.mpr hk), if_neg (not_not.mpr rfl), if_pos hk]
      rfl
    · rw [if_pos hk, if_neg hk]
      rfl
  case anyRow =>
    intro c dh dl r4 r5 r6 r7 k s hop
    refine ⟨_, rfl, ?_⟩
    rw [State.presentRx_resWires _ _ hop, response_read_responseFrame]
    simp only [apply_ite resWiresOf]
    rfl
  case received =>
    intro f len s hop
    refine ⟨_, applyAct_receive f len s, ?_⟩
    rw [State.presentRx_resWires f len hop, response_read_eq_tests, ppmOf_eq_ofNat]
    simp only [apply_ite resWiresOf]
    rfl

/-- Settles O31: with the echo check off the reply is PARSE's error or the acknowledgement, and neither carries a
concentration or code 4. -/
theorem otherResponsesAreAcknowledged : Obligations.OtherResponsesAreAcknowledged := by
  refine ⟨?received, by decide, by decide, by decide, by decide, by decide⟩
  intro op f len s hop hrsp
  refine ⟨_, applyAct_receive f len s, ?outcome, ?wires⟩
  case outcome =>
    rw [State.presentRx_resOutcome f len hrsp, response_ack_eq_tests f len hop]
    rfl
  case wires =>
    rw [State.presentRx_resWires f len hrsp, response_ack_eq_tests f len hop]
    split_ifs <;> decide

/-- Settles O27: both halves refuse a code that is none of the five, whatever else is driven. -/
theorem unknownOperationCodesAreRefused : Obligations.UnknownOperationCodesAreRefused := by
  intro op hread hzero hspan habc hrange
  have hop : isCommandCode op = false := isCommandCode_eq_false hread hzero hspan habc hrange
  have hres (f : Frame) (len : BitVec 4) : response op f len = .err .invalidArgument := response_of_unknown f len hop
  refine ⟨?request, ?unsent, ?response, fun f f' len len' => (hres f len).trans (hres f' len').symm⟩
  case request =>
    intro arg flag s
    obtain ⟨t, ht, _, hwires⟩ := applyAct_request op arg flag s
    exact ⟨t, ht, hwires.trans (refused_of_request_err (request_of_unknown arg flag hop)).1⟩
  case unsent =>
    exact fun arg flag => sentToLink_of_request_err (request_of_unknown arg flag hop)
  case response =>
    intro s f len hf hl hrsp
    have hout : s.resOutcome = some (.err .invalidArgument) := by rw [s.driven_resOutcome hf hl hrsp, hres]
    exact ⟨hout, State.resWires_of_outcome hout⟩

end Sys2Proof
end

section
/-! SUPPORT. The error codes on the status wires, the conditions of each error in R102's order, and the complete causes
of InvalidArgument (60_exceptions.md R97, R98, R102), and the three obligations about them. -/

namespace Sys2Proof.Machine

variable {op : Byte} {arg : Half}

/-! ### The status pair is the outcome's, whichever unit carries it (10_state.md R15) -/

@[simp] theorem decWiresOf_ok (r : UnitResult Decoded) : (decWiresOf r).ok = okBit r := by cases r <;> rfl
@[simp] theorem decWiresOf_err (r : UnitResult Decoded) : (decWiresOf r).err = errBits r := by cases r <;> rfl
@[simp] theorem reqWiresOf_ok (r : UnitResult Frame) : (reqWiresOf r).ok = okBit r := by cases r <;> rfl
@[simp] theorem reqWiresOf_err (r : UnitResult Frame) : (reqWiresOf r).err = errBits r := by cases r <;> rfl
@[simp] theorem resWiresOf_ok (r : UnitResult Reply) : (resWiresOf r).ok = okBit r := by
  rcases r with (_ | _) | _ <;> rfl
@[simp] theorem resWiresOf_err (r : UnitResult Reply) : (resWiresOf r).err = errBits r := by
  rcases r with (_ | _) | _ <;> rfl

/-- Code 0 says `Ok` and nothing else does (60_exceptions.md R97). -/
theorem okBit_iff_errBits_eq_zero {α : Type} (r : UnitResult α) : okBit r = true ↔ errBits r = 0 := by
  cases r with
  | ok _ => exact iff_of_true rfl rfl
  | err e => exact iff_of_false Bool.false_ne_true e.code_ne_zero

/-! ### The operation codes -/

theorem isCommandCode_eq_false_iff :
    isCommandCode op = false ↔ op ≠ 0x86 ∧ op ≠ 0x87 ∧ op ≠ 0x88 ∧ op ≠ 0x79 ∧ op ≠ 0x99 := by
  simp only [isCommandCode, Bool.or_eq_false_iff, beq_eq_false_iff_ne, and_assoc]

/-- A command other than READ_CO2 is one of the four that are acknowledged (43_commands.md R81). -/
theorem acknowledged_of_isCommandCode (hop : isCommandCode op = true) (hread : op ≠ 0x86) :
    op = 0x87 ∨ op = 0x88 ∨ op = 0x79 ∨ op = 0x99 := by
  simp only [isCommandCode, Bool.or_eq_true, beq_iff_eq, or_assoc] at hop
  exact hop.resolve_left hread

/-! ### The causes of InvalidArgument in the request half (60_exceptions.md R98) -/

/-- R98 (a) to (c): a span target below 1000, a range that is neither of the two, or an unknown operation code. -/
def IllegalRequest (op : Byte) (arg : Half) : Prop :=
  (op = 0x88 ∧ arg.toNat < 1000) ∨ (op = 0x99 ∧ arg ≠ 2000 ∧ arg ≠ 5000) ∨
    (op ≠ 0x86 ∧ op ≠ 0x87 ∧ op ≠ 0x88 ∧ op ≠ 0x79 ∧ op ≠ 0x99)

theorem request_of_illegal (flag : Bool) (h : IllegalRequest op arg) :
    request op arg flag = .err .invalidArgument := by
  rcases h with ⟨rfl, hlow⟩ | ⟨rfl, hlow, hhigh⟩ | hop
  · exact request_span_of_low flag hlow
  · exact request_range_of_illegal flag hlow hhigh
  · exact request_of_unknown arg flag (isCommandCode_eq_false_iff.mpr hop)

theorem illegal_of_request_err {flag : Bool} {e : Err} (h : request op arg flag = .err e) : IllegalRequest op arg := by
  rcases request_cases op arg flag with
    ⟨_, hr⟩ | ⟨_, hr⟩ | ⟨_, _, hr⟩ | ⟨hop, hlow, _⟩ | ⟨_, hr⟩ | ⟨_, _, hr⟩ | ⟨hop, hrange, _⟩ | ⟨hop, _⟩
  · cases hr.symm.trans h
  · cases hr.symm.trans h
  · cases hr.symm.trans h
  · exact .inl ⟨hop, hlow⟩
  · cases hr.symm.trans h
  · cases hr.symm.trans h
  · exact .inr (.inl ⟨hop, not_or.mp hrange⟩)
  · exact .inr (.inr (isCommandCode_eq_false_iff.mp hop))

theorem request_eq_invalidArgument_iff (flag : Bool) :
    request op arg flag = .err .invalidArgument ↔ IllegalRequest op arg :=
  ⟨illegal_of_request_err, request_of_illegal flag⟩

theorem errBits_request_of_legal (flag : Bool) (h : ¬IllegalRequest op arg) : errBits (request op arg flag) = 0 := by
  rcases hr : request op arg flag with fr | e
  · rfl
  · exact absurd (illegal_of_request_err hr) h

/-! ### The response half as one chain of tests, whatever the operation code (43_commands.md R77) -/

/-- What the response half makes of a frame it accepts (43_commands.md R79, R81). -/
def acceptedReply (op : Byte) (f : Frame) : Reply := if op = 0x86 then .ppm (ppmOf f.b2 f.b3) else .ack

/-- InvalidArgument first, then DEC's tests, the echo's under 0x86 alone. -/
theorem response_eq_tests (op : Byte) (f : Frame) (len : BitVec 4) :
    response op f len =
      if isCommandCode op = false then .err .invalidArgument
      else if len.toNat < 9 then .err .badLength
      else if f.b0 ≠ 0xFF then .err .badStart
      else if f.b8 ≠ frameCks f then .err .checksumMismatch
      else if op = 0x86 ∧ f.b1 ≠ 0x86 then .err .unexpectedCommand
      else .ok (acceptedReply op f) := by
  rcases response_cases op f len with ⟨rfl, _⟩ | ⟨hread, hop, _⟩ | ⟨hop, hr⟩
  · simp only [response_read_eq_tests, true_and]
    rfl
  · simp only [response_ack_eq_tests f len (acknowledged_of_isCommandCode hop hread), hop, hread, false_and, if_false,
      Bool.true_eq_false, acceptedReply]
  · rw [hr, if_pos hop]

/-! ### The first condition that holds (60_exceptions.md R102) -/

theorem Err.rank_injective : Function.Injective Err.rank := by
  intro e e' h
  cases e <;> cases e' <;> revert h <;> decide

/-- The first condition in R102's order is the one whose rank is least. -/
theorem eq_iff_least_of_first {holds : Err → Prop} {e₀ : Err} (h₀ : holds e₀)
    (hfirst : ∀ e', e'.rank < e₀.rank → ¬holds e') (e : Err) :
    e₀ = e ↔ holds e ∧ ∀ e', holds e' → e.rank ≤ e'.rank := by
  have hleast (e' : Err) (h' : holds e') : e₀.rank ≤ e'.rank := not_lt.mp fun hlt => hfirst e' hlt h'
  constructor
  · rintro rfl
    exact ⟨h₀, hleast⟩
  · rintro ⟨he, hle⟩
    exact Err.rank_injective (le_antisymm (hleast e he) (hle e₀ h₀))

/-- When each error's condition holds of the response half's inputs (60_exceptions.md R97, R98). -/
def ReplyCondition (op : Byte) (f : Frame) (len : BitVec 4) : Err → Prop
  | .invalidArgument => isCommandCode op = false
  | .badLength => len.toNat < 9
  | .badStart => f.b0 ≠ 0xFF
  | .checksumMismatch => f.b8 ≠ frameCks f
  | .unexpectedCommand => op = 0x86 ∧ f.b1 ≠ 0x86

/-- The response half reports the first condition that holds, and succeeds where none does. -/
theorem response_first_condition (op : Byte) (f : Frame) (len : BitVec 4) :
    (∃ e, response op f len = .err e ∧ ReplyCondition op f len e ∧
      ∀ e', e'.rank < e.rank → ¬ReplyCondition op f len e') ∨
    ((∃ r, response op f len = .ok r) ∧ ∀ e, ¬ReplyCondition op f len e) := by
  rw [response_eq_tests]
  split_ifs with hop hl hs hk he
  · exact .inl ⟨_, rfl, hop, fun _ hlt => absurd hlt (Nat.not_lt_zero _)⟩
  · exact .inl ⟨_, rfl, hl, by rintro ⟨⟩ <;> simp [Err.rank, ReplyCondition, hop]⟩
  · exact .inl ⟨_, rfl, hs, by rintro ⟨⟩ <;> simp [Err.rank, ReplyCondition, hop, hl]⟩
  · exact .inl ⟨_, rfl, hk, by rintro ⟨⟩ <;> simp [Err.rank, ReplyCondition, hop, hl, not_not.mp hs]⟩
  · exact .inl ⟨_, rfl, he, by rintro ⟨⟩ <;> simp [Err.rank, ReplyCondition, hop, hl, not_not.mp hs, not_not.mp hk]⟩
  · exact .inr ⟨⟨_, rfl⟩, by rintro ⟨⟩ <;> assumption⟩

/-- An error is reported only where its own condition holds. -/
theorem replyCondition_of_response_err {f : Frame} {len : BitVec 4} {e : Err} (h : response op f len = .err e) :
    ReplyCondition op f len e := by
  rcases response_first_condition op f len with ⟨e₀, hr, h₀, _⟩ | ⟨⟨r, hr⟩, _⟩
  · rw [UnitResult.err.inj (h.symm.trans hr)]
    exact h₀
  · cases hr.symm.trans h

/-- R98 (d) is the response half's one cause of InvalidArgument. -/
theorem response_eq_invalidArgument_iff (op : Byte) (f : Frame) (len : BitVec 4) :
    response op f len = .err .invalidArgument ↔ isCommandCode op = false :=
  ⟨replyCondition_of_response_err, response_of_unknown f len⟩

end Sys2Proof.Machine

namespace Sys2Proof

open Machine

/-- Settles O19: each unit's code is read off its own tests, and the status pair is one function of the outcome. -/
theorem errorCodesFollowTheTable : Obligations.ErrorCodesFollowTheTable := by
  refine ⟨?dec, ?request, ?response, ?decOk, ?reqOk, ?resOk⟩
  case dec =>
    intro f len en c
    rw [decWiresOf_err, dec_eq_tests]
    simp only [apply_ite errBits]
    rfl
  case request =>
    intro op arg flag
    rw [reqWiresOf_err]
    split_ifs with h
    · rw [request_of_illegal flag h]
      rfl
    · exact errBits_request_of_legal flag h
  case response =>
    intro op f len
    rw [resWiresOf_err, response_eq_tests]
    simp only [apply_ite errBits, isCommandCode_eq_false_iff]
    rfl
  case decOk => exact fun r => by rw [decWiresOf_ok, decWiresOf_err, okBit_iff_errBits_eq_zero]
  case reqOk => exact fun r => by rw [reqWiresOf_ok, reqWiresOf_err, okBit_iff_errBits_eq_zero]
  case resOk => exact fun r => by rw [resWiresOf_ok, resWiresOf_err, okBit_iff_errBits_eq_zero]

/-- Settles O20: the first condition that holds is the one of least rank, and each half reads its own ports. -/
theorem highestPriorityErrorIsReported : Obligations.HighestPriorityErrorIsReported := by
  refine ⟨?reported, ?halves⟩
  case reported =>
    intro op f len holds
    have hholds : holds = ReplyCondition op f len := rfl
    rw [hholds]
    rcases response_first_condition op f len with ⟨e₀, hr, h₀, hfirst⟩ | ⟨⟨r, hr⟩, hnone⟩ <;> rw [hr]
    · refine ⟨fun e => ?_, iff_of_false nofun fun hnone => hnone e₀ h₀⟩
      rw [UnitResult.err.injEq, eq_iff_least_of_first h₀ hfirst]
    · exact ⟨fun e => iff_of_false nofun fun he => hnone e he.1, iff_of_true ⟨r, rfl⟩ hnone⟩
  case halves =>
    intro s op arg flag rsp f len
    rw [State.driveFlag_resOutcome, State.driveArg_resOutcome, State.driveOp_resOutcome, State.driveRx_reqOutcome,
      State.driveRspOp_reqOutcome]
    exact ⟨rfl, rfl⟩

/-- Settles O21: each refusal of the request half has one of R98's causes, and only an unknown code refuses a reply. -/
theorem invalidArgumentHasExactlyFourCauses : Obligations.InvalidArgumentHasExactlyFourCauses := by
  refine ⟨fun op arg flag => ⟨request_eq_invalidArgument_iff flag, fun e h => ?_⟩,
    fun op f len => (response_eq_invalidArgument_iff op f len).trans isCommandCode_eq_false_iff⟩
  obtain rfl : e = .invalidArgument := eq_invalidArgument_of_request_err h
  exact ⟨rfl, refused_of_request_err h⟩

end Sys2Proof
end

section
/-! SUPPORT. What one act of the host does, said once; runs, which read no earlier outcome, and the obligation
that says so (70_reset_and_hazards.md R121, 60_exceptions.md section 5). -/

namespace Sys2Proof.Machine

/-! ### A state with further outcomes in front -/

/-- The state whose run produced `before` before its own outcomes. -/
def State.precededBy (before : List Sampled) (s : State) : State := { s with outcomes := before ++ s.outcomes }

/-- A new outcome joins the end of the list, away from what stands in front. -/
theorem State.record_precededBy (before : List Sampled) (x : Sampled) (s : State) :
    (s.precededBy before).record x = (s.record x).precededBy before := by
  simp only [State.record, State.precededBy, List.append_assoc]

/-- A step's answer with its next state changed. -/
def mapNext (g : State → State) : Host.Outcome State Fault Refusal → Host.Outcome State Fault Refusal
  | .next t => .next (g t)
  | .fault r => .fault r
  | .refused r => .refused r

/-! ### An act drives ports and then samples at most once (70_reset_and_hazards.md R121) -/

/-- An update of the ports alone: it leaves the outcomes as they are and does not read them. -/
def DrivesPorts (drive : State → State) : Prop :=
  ∀ s : State, (drive s).outcomes = s.outcomes ∧
    ∀ before, drive (s.precededBy before) = (drive s).precededBy before

/-- What the host can sample after driving ports: nothing, or one unit. -/
inductive Samples : (State → State) → Prop
  | nothing : Samples id
  | request : Samples State.sampleRequest
  | built : Samples State.sampleBuilt
  | received : Samples State.sampleReceived
  | checksum : Samples State.sampleChecksum

/-- The answer is a next state in every state: some ports driven, then at most one unit sampled. -/
def DrivesThenSamples (m : State → Host.Outcome State Fault Refusal) : Prop :=
  ∃ drive sample, DrivesPorts drive ∧ Samples sample ∧ ∀ s, m s = .next (sample (drive s))

theorem exec_drivesThenSamples (i : Instr) : DrivesThenSamples (exec i) := by
  cases i with
  | readCo2 _ | calZero _ => exact ⟨State.driveOp _, _, fun _ => ⟨rfl, fun _ => rfl⟩, .request, fun _ => rfl⟩
  | calSpan _ _ | setRange2000 _ | setRange5000 _ =>
    exact ⟨fun s => (s.driveOp _).driveArg _, _, fun _ => ⟨rfl, fun _ => rfl⟩, .request, fun _ => rfl⟩
  | setAbcOn _ | setAbcOff _ =>
    exact ⟨fun s => (s.driveOp _).driveFlag _, _, fun _ => ⟨rfl, fun _ => rfl⟩, .request, fun _ => rfl⟩
  | cmdRaw _ _ _ _ _ _ => exact ⟨State.driveEnc _ 4 _, _, fun _ => ⟨rfl, fun _ => rfl⟩, .built, fun _ => rfl⟩
  | rspReadCo2 _ _ _ _ _ _ _ | rspAny _ _ _ _ _ _ _ _ =>
    exact ⟨State.driveRx _ 9, _, fun _ => ⟨rfl, fun _ => rfl⟩, .received, fun _ => rfl⟩

/-- The fixed bytes 0, 1 and 7 decide whether a frame is a command (30_encoding.md R30, R37). -/
theorem decode_command_toList (f : Frame) :
    decode .command f.toList =
      if f.b0 ≠ Config.start then .error .badStart
      else if f.b1 ≠ Config.sensorNum then .error .badSensorNumber
      else if f.b7 ≠ Config.reservedCmdByte then .error .badReserved
      else .ok (decodeCommand f.b2 f.b3 f.b4 f.b5 f.b6 f.b8, []) := rfl

/-- The decoder leaves nothing of nine bytes over (30_encoding.md R41). -/
theorem rest_eq_nil_of_decode_toList {fmt : Format} {f : Frame} {i : Instr} {rest : List Byte}
    (h : decode fmt f.toList = .ok (i, rest)) : rest = [] := by
  cases fmt with
  | command =>
    rw [decode_command_toList] at h
    split_ifs at h
    cases h
    rfl
  | response =>
    rw [decode_response_toList] at h
    split_ifs at h
    cases h
    rfl

/-- Everything an act can do: bytes that are no command frame are refused, and every other act is answered. -/
theorem applyAct_cases (a : HostAct) :
    (∃ f e, a = .command f ∧ decode .command f.toList = .error e ∧
      ∀ s, applyAct a s = .refused (.notACommandFrame e)) ∨
    ((∀ f, a = .command f → ∃ i, decode .command f.toList = .ok (i, [])) ∧ DrivesThenSamples (applyAct a)) := by
  cases a with
  | command f =>
    rcases hd : decode .command f.toList with e | ⟨i, rest⟩
    · exact .inl ⟨f, e, rfl, hd, fun s => by simp only [applyAct, applyCommand, hd]⟩
    · obtain rfl := rest_eq_nil_of_decode_toList hd
      refine .inr ⟨fun f' hf => ⟨i, HostAct.command.inj hf ▸ hd⟩, ?_⟩
      have he : applyAct (.command f) = exec i := funext fun s => by simp only [applyAct, applyCommand, hd]
      exact he ▸ exec_drivesThenSamples i
  | receive f len =>
    exact .inr ⟨nofun, State.driveRx f len, _, fun _ => ⟨rfl, fun _ => rfl⟩, .received, applyAct_receive f len⟩
  | request op arg flag =>
    exact .inr ⟨nofun, fun s => ((s.driveOp op).driveArg arg).driveFlag flag, _, fun _ => ⟨rfl, fun _ => rfl⟩, .request,
      fun _ => rfl⟩
  | respondTo op => exact .inr ⟨nofun, State.driveRspOp op, _, fun _ => ⟨rfl, fun _ => rfl⟩, .nothing, fun _ => rfl⟩
  | expect en c => exact .inr ⟨nofun, State.driveExp en c, _, fun _ => ⟨rfl, fun _ => rfl⟩, .nothing, fun _ => rfl⟩
  | build c n p => exact .inr ⟨nofun, State.driveEnc c n p, _, fun _ => ⟨rfl, fun _ => rfl⟩, .built, fun _ => rfl⟩
  | checksum b => exact .inr ⟨nofun, State.driveCks b, _, fun _ => ⟨rfl, fun _ => rfl⟩, .checksum, fun _ => rfl⟩

/-! ### Outcomes in front stay in front (60_exceptions.md section 5) -/

variable (before : List Sampled)

theorem Samples.precededBy {sample : State → State} (h : Samples sample) (s : State) :
    sample (s.precededBy before) = (sample s).precededBy before := by
  cases h with
  | nothing => rfl
  | request | built | received | checksum => exact State.record_precededBy before _ s

theorem applyAct_precededBy (a : HostAct) (s : State) :
    applyAct a (s.precededBy before) = mapNext (State.precededBy before) (applyAct a s) := by
  rcases applyAct_cases a with ⟨f, e, _, _, hr⟩ | ⟨_, drive, sample, hdrive, hsample, hm⟩
  · rw [hr, hr, mapNext]
  · rw [hm, hm, mapNext, (hdrive s).2, hsample.precededBy]

theorem step_precededBy (s : State) :
    step (s.precededBy before) = mapNext (State.precededBy before) (step s) := by
  have hhost : (s.precededBy before).host = s.host := rfl
  rw [step, step, hhost]
  cases s.host with
  | nil => rfl
  | cons a rest => exact applyAct_precededBy before a (s.advance rest)

/-- A run keeps in front whatever stood in front of its outcomes and is otherwise the same. -/
theorem run_precededBy (n : Nat) (s : State) :
    core.run n (s.precededBy before) = mapNext (State.precededBy before) (core.run n s) := by
  induction n generalizing s with
  | zero => rfl
  | succ n ih =>
    have hs : core.step (s.precededBy before) = mapNext (State.precededBy before) (core.step s) :=
      step_precededBy before s
    simp only [Host.Core.run, hs]
    cases core.step s with
    | next t => exact ih t
    | fault r => rfl
    | refused r => rfl

end Sys2Proof.Machine

namespace Sys2Proof

open Machine

/-- Settles O39: no act reads the outcomes, so by induction on the steps those in front stay in front. -/
theorem runsDoNotDependOnEarlierOutcomes : Obligations.RunsDoNotDependOnEarlierOutcomes := by
  intro n before s
  refine (run_precededBy before n s).trans ?_
  cases core.run n s <;> rfl

end Sys2Proof
end

section
/-! SUPPORT. The outcome of each unit where its inputs are driven, the outcomes the rules allow, and the obligations
about the invariant that every outcome of a run is one of them (41_encoder.md R54, 42_decoder.md R68, 43_commands.md
R77, R89). -/

namespace Sys2Proof.Machine

open Safety

variable {s : State}

/-! ### A specified outcome is the unit's function of some inputs -/

theorem State.exists_build_of_encOutcome {f : Frame} (h : s.encOutcome = some f) :
    ∃ cmd plen p, f = build cmd plen p := by
  unfold State.encOutcome at h
  split at h
  · split_ifs at h
    · exact ⟨_, _, _, (Option.some.inj h).symm⟩
    · obtain ⟨p, _, hp⟩ := Option.map_eq_some_iff.mp h
      exact ⟨_, _, p, hp.symm⟩
  · cases h

theorem State.exists_request_of_reqOutcome {r : UnitResult Frame} (h : s.reqOutcome = some r) :
    ∃ op arg flag, r = request op arg flag := by
  unfold State.reqOutcome at h
  split at h
  · cases h
  · split_ifs at h
    · obtain ⟨arg, _, hr⟩ := Option.map_eq_some_iff.mp h
      exact ⟨_, arg, _, hr.symm⟩
    · obtain ⟨flag, _, hr⟩ := Option.map_eq_some_iff.mp h
      exact ⟨_, _, flag, hr.symm⟩
    · exact ⟨_, _, _, (Option.some.inj h).symm⟩

/-- A short input is PARSE's on any frame, since its lanes are not read (42_decoder.md R62). -/
theorem State.exists_parse_of_parseOutcome {r : UnitResult Parsed} (h : s.parseOutcome = some r) :
    ∃ f len, r = parse f len := by
  unfold State.parseOutcome at h
  split at h
  · cases h
  · split_ifs at h with hshort
    · exact ⟨zeroFrame, _, (Option.some.inj h).symm.trans (if_pos hshort).symm⟩
    · obtain ⟨f, _, hr⟩ := Option.map_eq_some_iff.mp h
      exact ⟨f, _, hr.symm⟩

/-- The response half refuses an unknown code, or it judges the bytes that PARSE sees (43_commands.md R77, R88). -/
theorem State.exists_response_of_resOutcome {r : UnitResult Reply} (h : s.resOutcome = some r) :
    r = .err .invalidArgument ∨ ∃ op f len, s.parseOutcome = some (parse f len) ∧ r = response op f len := by
  unfold State.resOutcome at h
  split at h
  · cases h
  · rename_i op hop
    split_ifs at h with hcode
    · split at h
      · cases h
      · rename_i len hlen
        split_ifs at h with hshort
        · have hlt : len.toNat < 9 := of_decide_eq_true hshort
          refine .inr ⟨op, zeroFrame, len, ?_, ?_⟩
          · simp only [State.parseOutcome, hlen, hshort, if_true, parse]
          · rw [← Option.some.inj h, response_eq_tests, hcode, if_neg nofun, if_pos hlt, raise]
        · obtain ⟨f, hf, hr⟩ := Option.map_eq_some_iff.mp h
          exact .inr ⟨op, f, len, s.driven_parseOutcome hf hlen, hr.symm⟩
    · exact .inl (Option.some.inj h).symm

/-! ### The frames of ENC and of the request half (41_encoder.md R54, 43_commands.md R89) -/

theorem goodCommandFrame_build (cmd : Byte) (plen : BitVec 3) (p : Payload) :
    goodCommandFrame (build cmd plen p) = true := by
  simp [goodCommandFrame]

/-- The request half builds with its own code, one of the five, and at most two payload lanes. -/
theorem exists_build_of_request_ok {op : Byte} {arg : Half} {flag : Bool} {f : Frame}
    (h : request op arg flag = .ok f) :
    isCommandCode op = true ∧ ∃ n p, n.toNat ≤ 2 ∧ f = build op n p := by
  rcases request_cases op arg flag with
    ⟨rfl, hr⟩ | ⟨rfl, hr⟩ | ⟨rfl, _, hr⟩ | ⟨_, _, hr⟩ | ⟨rfl, hr⟩ | ⟨rfl, _, hr⟩ | ⟨_, _, hr⟩ | ⟨_, hr⟩ <;>
    cases h.symm.trans hr
  · exact ⟨rfl, 0, noPayload, by decide, rfl⟩
  · exact ⟨rfl, 0, noPayload, by decide, rfl⟩
  · exact ⟨rfl, 2, halfPayload arg, by decide, rfl⟩
  · exact ⟨rfl, 1, abcPayload flag, by decide, rfl⟩
  · exact ⟨rfl, 2, halfPayload arg, by decide, rfl⟩

theorem paddedByte_of_le {n : BitVec 3} {i : Nat} (lane : Byte) (h : n.toNat ≤ i) : paddedByte n i lane = 0 :=
  if_neg (Nat.not_lt.mpr h)

/-- The last two payload bytes are zero where at most two lanes are used. -/
theorem padded_p2_p3_of_le_two {n : BitVec 3} (p : Payload) (h : n.toNat ≤ 2) :
    (padded n p).p2 = 0 ∧ (padded n p).p3 = 0 :=
  ⟨paddedByte_of_le _ h, paddedByte_of_le _ (by omega)⟩

theorem goodRequestFrame_of_request_ok {op : Byte} {arg : Half} {flag : Bool} {f : Frame}
    (h : request op arg flag = .ok f) : goodRequestFrame f = true := by
  obtain ⟨hop, n, p, hn, rfl⟩ := exists_build_of_request_ok h
  obtain ⟨h5, h6⟩ := padded_p2_p3_of_le_two p hn
  simp [goodRequestFrame, goodCommandFrame_build, hop, h5, h6]

/-! ### The verdicts on received bytes (42_decoder.md R61, R68, 43_commands.md R77) -/

theorem legalParsed_parse (f : Frame) (len : BitVec 4) : legalParsed (some (parse f len)) = true := by
  rcases parse_cases f len with ⟨_, hp⟩ | ⟨_, _, hp⟩ | ⟨_, _, _, hp⟩ | ⟨_, _, _, hp⟩ <;> rw [hp] <;> rfl

theorem legalDecoded_finishDec (p : Parsed) (en : Bool) (c : Byte) :
    legalDecoded (some (.ok p)) (some (finishDec p en c)) = true := by
  rw [finishDec, echo]
  split_ifs
  · rfl
  · exact beq_self_eq_true (decodedOf p)

theorem State.legalDecoded_decOutcome (s : State) : legalDecoded s.parseOutcome s.decOutcome = true := by
  unfold State.decOutcome
  split
  case h_1 e _ hp _ => rw [hp]; exact beq_self_eq_true e
  case h_2 p en c hp _ => rw [hp]; exact legalDecoded_finishDec p en c
  case h_3 => unfold legalDecoded; rfl
  case h_4 => unfold legalDecoded; rfl

theorem legalReply_response (op : Byte) (f : Frame) (len : BitVec 4) :
    legalReply (some (parse f len)) (some (response op f len)) = true := by
  rw [response_eq_tests]
  rcases parse_cases f len with ⟨hl, hp⟩ | ⟨hl, hs, hp⟩ | ⟨hl, hs, hk, hp⟩ | ⟨hl, hs, hk, hp⟩ <;> rw [hp]
  · split_ifs <;> rfl
  · rw [if_neg hl.not_gt, if_pos hs]
    split_ifs <;> rfl
  · rw [if_neg hl.not_gt, if_neg (not_not.mpr hs), if_pos hk]
    split_ifs <;> rfl
  · rw [if_neg hl.not_gt, if_neg (not_not.mpr hs), if_neg (not_not.mpr hk), acceptedReply]
    split_ifs with hop hecho hread
    · rfl
    · exact bne_iff_ne.mpr hecho.2
    · have hb1 : f.b1 = 0x86 := not_not.mp fun hne => hecho ⟨hread, hne⟩
      simp [legalReply, hb1]
    · rfl

/-! ### The invariant (42_decoder.md section 4, 43_commands.md section 8) -/

theorem State.legalOutcome_built (s : State) : legalOutcome (.built s.encOutcome) = true := by
  rcases h : s.encOutcome with _ | f
  · rfl
  · obtain ⟨cmd, plen, p, rfl⟩ := State.exists_build_of_encOutcome h
    exact goodCommandFrame_build cmd plen p

theorem State.legalOutcome_request (s : State) : legalOutcome (.request s.reqOutcome) = true := by
  rcases h : s.reqOutcome with _ | r
  · rfl
  · obtain ⟨op, arg, flag, rfl⟩ := State.exists_request_of_reqOutcome h
    rcases hr : request op arg flag with f | e
    · exact goodRequestFrame_of_request_ok hr
    · rw [eq_invalidArgument_of_request_err hr]
      rfl

theorem State.legalOutcome_received (s : State) :
    legalOutcome (.received s.parseOutcome s.decOutcome s.resOutcome) = true := by
  have hparsed : legalParsed s.parseOutcome = true := by
    rcases h : s.parseOutcome with _ | r
    · rfl
    · obtain ⟨f, len, rfl⟩ := State.exists_parse_of_parseOutcome h
      exact legalParsed_parse f len
  have hreply : legalReply s.parseOutcome s.resOutcome = true := by
    rcases h : s.resOutcome with _ | r
    · rfl
    · rcases State.exists_response_of_resOutcome h with rfl | ⟨op, f, len, hp, rfl⟩
      · rfl
      · rw [hp]
        exact legalReply_response op f len
  rw [legalOutcome, hparsed, s.legalDecoded_decOutcome, hreply]
  rfl

theorem legalRun_record {x : Sampled} (h : LegalRun s) (hx : legalOutcome x = true) : LegalRun (s.record x) := by
  intro y hy
  rcases List.mem_append.mp hy with hy | hy
  · exact h y hy
  · rw [List.mem_singleton.mp hy, hx]

theorem Samples.legalRun {sample : State → State} (hsample : Samples sample) (h : LegalRun s) :
    LegalRun (sample s) := by
  cases hsample with
  | nothing => exact h
  | request => exact legalRun_record h s.legalOutcome_request
  | built => exact legalRun_record h s.legalOutcome_built
  | received => exact legalRun_record h s.legalOutcome_received
  | checksum => exact legalRun_record h rfl

theorem DrivesPorts.legalRun {drive : State → State} (hdrive : DrivesPorts drive) (h : LegalRun s) :
    LegalRun (drive s) := by
  rw [LegalRun, (hdrive s).1]
  exact h

theorem legalRun_of_applyAct {a : HostAct} {t : State} (h : LegalRun s) (ht : applyAct a s = .next t) : LegalRun t := by
  rcases applyAct_cases a with ⟨f, e, _, _, hr⟩ | ⟨_, drive, sample, hdrive, hsample, hm⟩
  · cases (hr s).symm.trans ht
  · cases (hm s).symm.trans ht
    exact hsample.legalRun (hdrive.legalRun h)

end Sys2Proof.Machine

namespace Sys2Proof

open Machine Safety

/-- Settles O51: each unit's outcome is legal in every state, and an act adds at most one unit's outcome. -/
theorem stepKeepsTheRunLegal : Obligations.StepKeepsTheRunLegal := by
  intro s t hs ht
  rw [step] at ht
  split at ht
  · cases ht
  · exact legalRun_of_applyAct (s := s.advance _) hs ht

/-- Settles O52: a run that has produced nothing has produced nothing illegal. -/
theorem resetIsLegal : Obligations.ResetIsLegal :=
  List.forall_mem_nil _

/-- Settles O40: the reset state drives nothing, and every outcome is computed from driven ports. -/
theorem resetDrivesNoInput : Obligations.ResetDrivesNoInput :=
  ⟨rfl, rfl, rfl, rfl, rfl, rfl, rfl, rfl, rfl, rfl, rfl, rfl, rfl, rfl, rfl, rfl, rfl, rfl⟩

end Sys2Proof
end

section
/-! SUPPORT. The encoder and the decoder as inverses, the opcode table lane by lane, byte order, and the obligations
about them (30_encoding.md R30 to R42, 20_memory.md R22). -/

namespace Sys2Proof

open Machine

/-! ### Byte order (20_memory.md R22, 30_encoding.md R32) -/

theorem append_toNat {m n : Nat} (x : BitVec m) (y : BitVec n) : (x ++ y).toNat = x.toNat * 2 ^ n + y.toNat := by
  rw [BitVec.toNat_append, ← Nat.shiftLeft_add_eq_or_of_lt y.isLt, Nat.shiftLeft_eq]

theorem hiByte_toNat (v : Half) : (hiByte v).toNat = v.toNat / 256 := by
  rw [hiByte_eq_ofNat, BitVec.toNat_ofNat]
  omega

theorem loByte_toNat (v : Half) : (loByte v).toNat = v.toNat % 256 := by
  rw [loByte_eq_ofNat, BitVec.toNat_ofNat, Nat.mod_mod]

theorem hiByte_joinBytes (h l : Byte) : hiByte (joinBytes h l) = h := by
  have hn : (joinBytes h l).toNat = h.toNat * 256 + l.toNat := ppmOf_toNat h l
  rw [← BitVec.toNat_inj, hiByte_toNat, hn]
  omega

theorem loByte_joinBytes (h l : Byte) : loByte (joinBytes h l) = l := by
  have hn : (joinBytes h l).toNat = h.toNat * 256 + l.toNat := ppmOf_toNat h l
  rw [← BitVec.toNat_inj, loByte_toNat, hn]
  omega

/-- The packing is the number the nine bytes write in base 256 (30_encoding.md R32). -/
theorem Frame.packed_toNat (f : Frame) :
    f.packed.toNat = f.b0.toNat * 256 ^ 8 + f.b1.toNat * 256 ^ 7 + f.b2.toNat * 256 ^ 6 + f.b3.toNat * 256 ^ 5 +
      f.b4.toNat * 256 ^ 4 + f.b5.toNat * 256 ^ 3 + f.b6.toNat * 256 ^ 2 + f.b7.toNat * 256 + f.b8.toNat := by
  simp only [Frame.packed, append_toNat]
  omega

/-- The bits from `n` on, followed by the `n` low bits, are the low bits together. -/
theorem extractLsb'_append_low {w : Nat} (x : BitVec w) (n m : Nat) {y : BitVec n} (hy : y = x.extractLsb' 0 n) :
    x.extractLsb' n m ++ y = x.extractLsb' 0 (m + n) := by
  rw [hy, BitVec.extractLsb'_append_extractLsb'_eq_extractLsb' (Nat.zero_add n).symm]

/-- The nine slices of a word, appended in order, are the word. -/
theorem Frame.packed_ofPacked (w : BitVec 72) : (Frame.ofPacked w).packed = w :=
  calc (Frame.ofPacked w).packed
    _ = w.extractLsb' 0 72 :=
      extractLsb'_append_low w 64 8 <| extractLsb'_append_low w 56 8 <| extractLsb'_append_low w 48 8 <|
        extractLsb'_append_low w 40 8 <| extractLsb'_append_low w 32 8 <| extractLsb'_append_low w 24 8 <|
        extractLsb'_append_low w 16 8 <| extractLsb'_append_low w 8 8 rfl
    _ = w := BitVec.extractLsb'_eq_self

theorem Frame.ofPacked_packed (f : Frame) : Frame.ofPacked f.packed = f :=
  (Frame.packed_inj _ _).mp (Frame.packed_ofPacked f.packed)

/-! ### The decoder on nine bytes and on a frame's bytes (30_encoding.md R41, R42) -/

theorem decode_command_append (c p0 p1 p2 p3 k : Byte) (rest : List Byte) :
    decode .command ((commandFrame c p0 p1 p2 p3 k).toList ++ rest) = .ok (decodeCommand c p0 p1 p2 p3 k, rest) := rfl

theorem decode_response_append (c dh dl r4 r5 r6 r7 k : Byte) (rest : List Byte) :
    decode .response ((responseFrame c dh dl r4 r5 r6 r7 k).toList ++ rest) =
      .ok (decodeResponse c dh dl r4 r5 r6 r7 k, rest) := rfl

/-- Bytes that decode are a frame of their format, followed by the rest. -/
theorem decode_ok_cases {fmt : Format} {bytes rest : List Byte} {i : Instr} (h : decode fmt bytes = .ok (i, rest)) :
    (fmt = .command ∧ ∃ c p0 p1 p2 p3 k,
      bytes = (commandFrame c p0 p1 p2 p3 k).toList ++ rest ∧ i = decodeCommand c p0 p1 p2 p3 k) ∨
    (fmt = .response ∧ ∃ c dh dl r4 r5 r6 r7 k,
      bytes = (responseFrame c dh dl r4 r5 r6 r7 k).toList ++ rest ∧ i = decodeResponse c dh dl r4 r5 r6 r7 k) := by
  cases fmt with
  | command =>
    simp only [decode] at h
    split at h
    · split_ifs at h with h0 h1 h7
      obtain rfl := not_not.mp h0
      obtain rfl := not_not.mp h1
      obtain rfl := not_not.mp h7
      cases h
      exact .inl ⟨rfl, _, _, _, _, _, _, rfl, rfl⟩
    · cases h
  | response =>
    simp only [decode] at h
    split at h
    · split_ifs at h with h0
      obtain rfl := not_not.mp h0
      cases h
      exact .inr ⟨rfl, _, _, _, _, _, _, _, _, rfl, rfl⟩
    · cases h

/-! ### A row's bytes name the row (30_encoding.md R42) -/

theorem decodeCommand_span (v : Half) (k : Byte) : decodeCommand 0x88 (hiByte v) (loByte v) 0 0 k = .calSpan v k := by
  rw [← joinBytes_hiByte_loByte v, hiByte_joinBytes, loByte_joinBytes]
  simp [decodeCommand]

/-- The seven specific rows, in the order in which the decoder tries them (30_encoding.md R42). -/
theorem specificCommand_iff (c p0 p1 p2 p3 : Byte) :
    specificCommand c p0 p1 p2 p3 = true ↔
      (c = Config.cmdRead ∧ p0 = 0 ∧ p1 = 0 ∧ p2 = 0 ∧ p3 = 0) ∨
      (c = Config.cmdZero ∧ p0 = 0 ∧ p1 = 0 ∧ p2 = 0 ∧ p3 = 0) ∨
      (c = Config.cmdSpan ∧ p2 = 0 ∧ p3 = 0) ∨
      (c = Config.cmdAbc ∧ p0 = Config.abcOn ∧ p1 = 0 ∧ p2 = 0 ∧ p3 = 0) ∨
      (c = Config.cmdAbc ∧ p0 = Config.abcOff ∧ p1 = 0 ∧ p2 = 0 ∧ p3 = 0) ∨
      (c = Config.cmdRange ∧ p0 = 0x07 ∧ p1 = 0xD0 ∧ p2 = 0 ∧ p3 = 0) ∨
      (c = Config.cmdRange ∧ p0 = 0x13 ∧ p1 = 0x88 ∧ p2 = 0 ∧ p3 = 0) := by
  simp only [specificCommand, Bool.or_eq_true, Bool.and_eq_true, beq_iff_eq, and_or_left, or_and_right, and_assoc,
    or_assoc]

/-- Bytes that no specific row matches are CMD_RAW's. -/
theorem decodeCommand_of_not_specific {c p0 p1 p2 p3 : Byte} (k : Byte) (h : specificCommand c p0 p1 p2 p3 = false) :
    decodeCommand c p0 p1 p2 p3 k = .cmdRaw c p0 p1 p2 p3 k := by
  simp only [← Bool.not_eq_true, specificCommand_iff, not_or] at h
  obtain ⟨hread, hzero, hspan, hon, hoff, hlow, hhigh⟩ := h
  rw [decodeCommand, if_neg hread, if_neg hzero, if_neg hspan, if_neg hon, if_neg hoff, if_neg hlow, if_neg hhigh]

/-- Decoding the bytes of the row that R42's order names gives the row back. -/
theorem decode_encode_append (i : Instr) (rest : List Byte) (h : i.canonical = true) :
    decode i.format (encode i ++ rest) = .ok (i, rest) := by
  cases i with
  | readCo2 k | calZero k | setAbcOn k | setAbcOff k | setRange2000 k | setRange5000 k => rfl
  | calSpan v k =>
    exact (decode_command_append ..).trans (by rw [decodeCommand_span])
  | cmdRaw c p0 p1 p2 p3 k =>
    have hs : specificCommand c p0 p1 p2 p3 = false := by simpa [Instr.canonical] using h
    exact (decode_command_append ..).trans (by rw [decodeCommand_of_not_specific k hs])
  | rspReadCo2 dh dl r4 r5 r6 r7 k => rfl
  | rspAny c dh dl r4 r5 r6 r7 k =>
    have hc : c ≠ Config.cmdRead := by simpa [Instr.canonical] using h
    exact (decode_response_append ..).trans (by rw [decodeResponse, if_neg hc])

/-! ### A decoded row encodes to its bytes -/

/-- The row the decoder names for command bytes is of format C and canonical, and it writes out these bytes. -/
theorem decodeCommand_spec (c p0 p1 p2 p3 k : Byte) :
    (decodeCommand c p0 p1 p2 p3 k).toFrame = commandFrame c p0 p1 p2 p3 k ∧
      (decodeCommand c p0 p1 p2 p3 k).canonical = true ∧ (decodeCommand c p0 p1 p2 p3 k).format = .command := by
  unfold decodeCommand
  split_ifs with hread hzero hspan hon hoff hlow hhigh
  · obtain ⟨rfl, rfl, rfl, rfl, rfl⟩ := hread
    exact ⟨rfl, rfl, rfl⟩
  · obtain ⟨rfl, rfl, rfl, rfl, rfl⟩ := hzero
    exact ⟨rfl, rfl, rfl⟩
  · obtain ⟨rfl, rfl, rfl⟩ := hspan
    rw [Instr.toFrame, hiByte_joinBytes, loByte_joinBytes]
    exact ⟨rfl, rfl, rfl⟩
  · obtain ⟨rfl, rfl, rfl, rfl, rfl⟩ := hon
    exact ⟨rfl, rfl, rfl⟩
  · obtain ⟨rfl, rfl, rfl, rfl, rfl⟩ := hoff
    exact ⟨rfl, rfl, rfl⟩
  · obtain ⟨rfl, rfl, rfl, rfl, rfl⟩ := hlow
    exact ⟨rfl, rfl, rfl⟩
  · obtain ⟨rfl, rfl, rfl, rfl, rfl⟩ := hhigh
    exact ⟨rfl, rfl, rfl⟩
  · have hraw : specificCommand c p0 p1 p2 p3 = false := by
      simp only [← Bool.not_eq_true, specificCommand_iff, not_or]
      exact ⟨hread, hzero, hspan, hon, hoff, hlow, hhigh⟩
    exact ⟨rfl, by rw [Instr.canonical, hraw, Bool.not_false], rfl⟩

theorem decodeResponse_spec (c dh dl r4 r5 r6 r7 k : Byte) :
    (decodeResponse c dh dl r4 r5 r6 r7 k).toFrame = responseFrame c dh dl r4 r5 r6 r7 k ∧
      (decodeResponse c dh dl r4 r5 r6 r7 k).canonical = true ∧
      (decodeResponse c dh dl r4 r5 r6 r7 k).format = .response := by
  unfold decodeResponse
  split_ifs with hread
  · subst hread
    exact ⟨rfl, rfl, rfl⟩
  · exact ⟨rfl, bne_iff_ne.mpr hread, rfl⟩

/-! ### The opcode table, lane by lane (30_encoding.md R32, R42) -/

/-- Every format C row fixes bytes 0, 1 and 7. -/
theorem classify_command_eq_none {f : Frame} (h : ¬(f.b0 = 0xFF ∧ f.b1 = 0x01 ∧ f.b7 = 0x00)) :
    classify .command f.packed = none := by
  simp only [classify_command, readCo2Row_hits, calZeroRow_hits, calSpanRow_hits, setAbcOnRow_hits, setAbcOffRow_hits,
    setRange2000Row_hits, setRange5000Row_hits, cmdRawRow_hits]
  simp only [not_and_or] at h
  rcases h with h | h | h <;> simp only [h, false_and, and_false, if_false]

theorem decodeCommand_row (c p0 p1 p2 p3 k : Byte) :
    (decodeCommand c p0 p1 p2 p3 k).row =
      if c = 0x86 ∧ p0 = 0 ∧ p1 = 0 ∧ p2 = 0 ∧ p3 = 0 then .readCo2
      else if c = 0x87 ∧ p0 = 0 ∧ p1 = 0 ∧ p2 = 0 ∧ p3 = 0 then .calZero
      else if c = 0x88 ∧ p2 = 0 ∧ p3 = 0 then .calSpan
      else if c = 0x79 ∧ p0 = 0xA0 ∧ p1 = 0 ∧ p2 = 0 ∧ p3 = 0 then .setAbcOn
      else if c = 0x79 ∧ p0 = 0x00 ∧ p1 = 0 ∧ p2 = 0 ∧ p3 = 0 then .setAbcOff
      else if c = 0x99 ∧ p0 = 0x07 ∧ p1 = 0xD0 ∧ p2 = 0 ∧ p3 = 0 then .setRange2000
      else if c = 0x99 ∧ p0 = 0x13 ∧ p1 = 0x88 ∧ p2 = 0 ∧ p3 = 0 then .setRange5000
      else .cmdRaw := by
  rw [decodeCommand]
  simp only [apply_ite Instr.row]
  rfl

/-- With the fixed bytes right, the rows test bytes 2 to 6 as the decoder does, in the same order. -/
theorem classify_commandFrame (c p0 p1 p2 p3 k : Byte) :
    classify .command (commandFrame c p0 p1 p2 p3 k).packed = some (decodeCommand c p0 p1 p2 p3 k).row := by
  simp only [classify_command, readCo2Row_hits, calZeroRow_hits, calSpanRow_hits, setAbcOnRow_hits, setAbcOffRow_hits,
    setRange2000Row_hits, setRange5000Row_hits, cmdRawRow_hits, commandFrame, decodeCommand_row, 
    apply_ite some, true_and, and_true, if_true]

theorem classify_response_eq (f : Frame) :
    classify .response f.packed =
      if f.b0 = 0xFF then some (decodeResponse f.b1 f.b2 f.b3 f.b4 f.b5 f.b6 f.b7 f.b8).row else none := by
  simp only [classify_response, rspReadCo2Row_hits, rspAnyRow_hits, decodeResponse]
  by_cases h0 : f.b0 = 0xFF
  · simp only [h0, true_and, if_true, apply_ite Instr.row, apply_ite some]
    rfl
  · simp only [h0, false_and, if_false]

/-! ### Frames of the request half are specific rows (43_commands.md R89) -/

/-- Decoding the bytes of a row's frame gives the row, with nothing left over. -/
theorem decode_toFrame {i : Instr} (h : i.canonical = true) : decode i.format i.toFrame.toList = .ok (i, []) := by
  have hd := decode_encode_append i [] h
  rwa [List.append_nil, encode] at hd

/-- A frame of the request half is that of a well-formed specific row, a CAL_SPAN that of its own legal target. -/
theorem exists_row_of_request_ok {op : Byte} {arg : Half} {flag : Bool} {f : Frame} (h : request op arg flag = .ok f) :
    ∃ i : Instr, f = i.toFrame ∧ i.format = .command ∧ i.wellFormed = true ∧ i.row ≠ .cmdRaw ∧
      (∀ v k, i = .calSpan v k → 1000 ≤ v.toNat ∧ v = arg) := by
  rcases request_cases op arg flag with
    ⟨rfl, hr⟩ | ⟨rfl, hr⟩ | ⟨rfl, harg, hr⟩ | ⟨_, _, hr⟩ | ⟨rfl, hr⟩ | ⟨rfl, hrange, hr⟩ | ⟨_, _, hr⟩ | ⟨_, hr⟩ <;>
    cases h.symm.trans hr
  · exact ⟨.readCo2 0x79, rfl, rfl, by decide, nofun, nofun⟩
  · exact ⟨.calZero 0x78, rfl, rfl, by decide, nofun, nofun⟩
  · refine ⟨.calSpan arg (cks 0x01 0x88 (hiByte arg) (loByte arg) 0 0 0), rfl, rfl, ?_, nofun, ?_⟩
    · exact beq_self_eq_true _
    · rintro v k ⟨⟩
      exact ⟨harg, rfl⟩
  · cases flag
    · exact ⟨.setAbcOff 0x86, rfl, rfl, by decide, nofun, nofun⟩
    · exact ⟨.setAbcOn 0xE6, rfl, rfl, by decide, nofun, nofun⟩
  · rcases hrange with rfl | rfl
    · exact ⟨.setRange2000 0x8F, rfl, rfl, by decide, nofun, nofun⟩
    · exact ⟨.setRange5000 0xCB, rfl, rfl, by decide, nofun, nofun⟩

/-- Settles O42: the row's bytes reach its own test in the decoder's order and pass it. -/
theorem decodeInvertsEncode : Obligations.DecodeInvertsEncode :=
  fun i rest h => decode_encode_append i rest h

/-- Settles O43: bytes that decode are a frame of their format, and the decoder's row writes out that frame. -/
theorem encodeInvertsDecode : Obligations.EncodeInvertsDecode := by
  intro fmt bytes rest i h
  rcases decode_ok_cases h with ⟨rfl, c, p0, p1, p2, p3, k, rfl, rfl⟩ | ⟨rfl, c, dh, dl, r4, r5, r6, r7, k, rfl, rfl⟩
  · obtain ⟨hframe, hcanonical, hformat⟩ := decodeCommand_spec c p0 p1 p2 p3 k
    exact ⟨by rw [encode, hframe], hcanonical, hformat⟩
  · obtain ⟨hframe, hcanonical, hformat⟩ := decodeResponse_spec c dh dl r4 r5 r6 r7 k
    exact ⟨by rw [encode, hframe], hcanonical, hformat⟩

/-- Settles O44: in format C the fixed bytes decide whether a row hits and bytes 2 to 6 which; in format R byte 0
decides. -/
theorem decoderAgreesWithTheOpcodeTable : Obligations.DecoderAgreesWithTheOpcodeTable := by
  intro fmt f
  cases fmt with
  | command =>
    rw [decode_command_toList]
    split_ifs with h0 h1 h7
    · exact classify_command_eq_none fun h => h0 h.1
    · exact classify_command_eq_none fun h => h1 h.2.1
    · exact classify_command_eq_none fun h => h7 h.2.2
    · have hf : f = commandFrame f.b2 f.b3 f.b4 f.b5 f.b6 f.b8 :=
        Frame.ext (not_not.mp h0) (not_not.mp h1) rfl rfl rfl rfl rfl (not_not.mp h7) rfl
      rw [hf]
      exact classify_commandFrame ..
  | response =>
    rw [decode_response_toList, classify_response_eq]
    by_cases h0 : f.b0 = 0xFF
    · rw [if_pos h0, if_neg (not_not.mpr h0)]
    · rw [if_neg h0, if_pos h0]

/-- Settles O45: RSP_ANY takes every response whose byte 0 is right, and each frame of the request half is a specific
row's. -/
theorem commandLayerEmitsOnlySpecificRows : Obligations.CommandLayerEmitsOnlySpecificRows := by
  refine ⟨fun f => ?response, fun op arg flag f h => ?request⟩
  case response =>
    rw [classify_response_eq]
    split_ifs with h0
    · exact iff_of_false nofun (not_not.mpr h0)
    · exact iff_of_true rfl h0
  case request =>
    obtain ⟨i, rfl, hformat, hwf, hrow, hspan⟩ := exists_row_of_request_ok h
    have hcanonical : i.canonical = true := (Bool.and_eq_true_iff.mp hwf).1
    exact ⟨i, hformat ▸ decode_toFrame hcanonical, hwf, hrow, hspan⟩

/-- Settles O46: appending `n` bits multiplies by `2 ^ n`, and slicing a word takes nothing away. -/
theorem bytesAndPackingAreBigEndian : Obligations.BytesAndPackingAreBigEndian :=
  ⟨fun v => ⟨hiByte_toNat v, loByte_toNat v, joinBytes_hiByte_loByte v⟩,
    fun h l => ⟨hiByte_joinBytes h l, loByte_joinBytes h l⟩,
    Frame.packed_toNat, Frame.ofPacked_packed, Frame.packed_ofPacked⟩

/-- Settles O41: the decoder evaluated on each word. -/
theorem writtenOutWordsDecode : Obligations.WrittenOutWordsDecode := by
  unfold Obligations.WrittenOutWordsDecode
  decide

end Sys2Proof
end

section
/-! SUPPORT. One step in terms of the act at the head of the host's list, and the obligations about what a step runs,
where it stops and what three steps of a transaction leave behind (70_reset_and_hazards.md R116, R121, R122). -/

namespace Sys2Proof.Machine

variable {s : State} {a : HostAct} {rest : List HostAct}

/-! ### A step applies the act at the head of the list -/

theorem step_of_host_nil (h : s.host = []) : step s = .fault .endOfRun := by
  rw [step, h]

theorem step_of_host_cons (h : s.host = a :: rest) : step s = applyAct a (s.advance rest) := by
  rw [step, h]

theorem run_succ_of_next {n : Nat} {t : State} (h : step s = .next t) : core.run (n + 1) s = core.run n t := by
  have hs : core.step s = .next t := h
  simp only [Host.Core.run, hs]

theorem applyAct_command_of_decode {f : Frame} {i : Instr} (h : decode .command f.toList = .ok (i, [])) (s : State) :
    applyAct (.command f) s = exec i s := by
  simp only [applyAct, applyCommand, h]

theorem applyAct_receive_of_decode {f : Frame} {i : Instr} (h : decode .response f.toList = .ok (i, [])) (s : State) :
    applyAct (.receive f 9) s = exec i s := by
  simp only [applyAct, applyReceive, h, if_true]

/-- A table word is read as a command frame and, where it is none, as a response frame (log entry 10). -/
theorem decode_of_decodeTableWord {w : Nat} {i : Instr} (h : decodeTableWord 72 w = some i) :
    decode .command (frameOfTableWord w).toList = .ok (i, []) ∨
    (∃ e, decode .command (frameOfTableWord w).toList = .error e) ∧
      decode .response (frameOfTableWord w).toList = .ok (i, []) := by
  rw [decodeTableWord, if_pos (le_refl 72)] at h
  unfold frameOfTableWord
  rcases hc : decode .command (Frame.ofPacked (BitVec.ofNat 72 w)).toList with e | ⟨j, r⟩
  · rcases hr : decode .response (Frame.ofPacked (BitVec.ofNat 72 w)).toList with e' | ⟨j, r⟩
    · simp only [hc, hr] at h
      cases h
    · simp only [hc, hr] at h
      rw [← Option.some.inj h, rest_eq_nil_of_decode_toList hr]
      exact .inr ⟨⟨e, rfl⟩, rfl⟩
  · simp only [hc] at h
    rw [← Option.some.inj h, rest_eq_nil_of_decode_toList hc]
    exact .inl rfl

/-- Applying a table word's frame is running the instruction the word decodes to. -/
theorem applyAct_actOfFrame {w : Nat} {i : Instr} (h : decodeTableWord 72 w = some i) (s : State) :
    applyAct (actOfFrame (frameOfTableWord w)) s = exec i s := by
  rcases decode_of_decodeTableWord h with hc | ⟨⟨e, hc⟩, hr⟩
  · simp only [actOfFrame, hc, applyAct_command_of_decode hc]
  · simp only [actOfFrame, hc, applyAct_receive_of_decode hr]

end Sys2Proof.Machine

namespace Sys2Proof

open Machine

/-- Settles O47: the act at the head of the list decodes to the instruction, and applying it is running it. -/
theorem stepRunsTheDecodedInstruction : Obligations.StepRunsTheDecodedInstruction :=
  ⟨fun s _ rest _ hhost hd => (step_of_host_cons hhost).trans (applyAct_command_of_decode hd (s.advance rest)),
    fun s _ rest _ hhost hd => (step_of_host_cons hhost).trans (applyAct_receive_of_decode hd (s.advance rest))⟩

/-- Settles O48: the placed frame is the head of the list, and the act it is runs the decoded word. -/
theorem placedWordsRunNext : Obligations.PlacedWordsRunNext :=
  fun s w _ h => (step_of_host_cons (s := s.withFetchWord 72 w) rfl).trans (applyAct_actOfFrame h _)

/-- Settles O49: presenting the bytes drives two ports, on which PARSE is decided, and records the three outcomes. -/
theorem anyReceivedBytesAreApplied : Obligations.AnyReceivedBytesAreApplied := by
  intro f len s
  refine ⟨_, applyAct_receive f len s, ?_⟩
  rw [← State.driveRx_parseOutcome s f len]
  rfl

/-- Settles O50: the empty list faults, an act that is no command frame is refused, and every other act is answered. -/
theorem stepStopsOnlyAtTheEndOrOnNoCommand : Obligations.StepStopsOnlyAtTheEndOrOnNoCommand := by
  intro s
  rcases hhost : s.host with _ | ⟨a, rest⟩
  case nil =>
    rw [step_of_host_nil hhost]
    refine ⟨fun .endOfRun => iff_of_true rfl rfl, fun r => iff_of_false nofun ?_, iff_of_false ?_ ?_⟩
    · rintro ⟨_, _, _, ⟨⟩, _⟩
    · rintro ⟨_, ⟨⟩⟩
    · rintro ⟨_, _, ⟨⟩, _⟩
  case cons =>
    rw [step_of_host_cons hhost]
    rcases applyAct_cases a with ⟨f, e, rfl, hd, hm⟩ | ⟨hd, drive, sample, _, _, hm⟩ <;> rw [hm]
    · refine ⟨fun r => iff_of_false nofun nofun, fun r => ⟨?refused, ?only⟩, iff_of_false ?stopped ?undecoded⟩
      case stopped => rintro ⟨_, ⟨⟩⟩
      case refused =>
        rintro ⟨⟩
        exact ⟨f, rest, e, rfl, hd, rfl⟩
      case only =>
        rintro ⟨_, _, e', ⟨⟩, hd', rfl⟩
        cases hd.symm.trans hd'
        rfl
      case undecoded =>
        rintro ⟨_, _, ⟨⟩, hall⟩
        obtain ⟨i, hi⟩ := hall f rfl
        cases hd.symm.trans hi
    · refine ⟨fun r => iff_of_false nofun nofun, fun r => iff_of_false nofun ?_,
        iff_of_true ⟨_, rfl⟩ ⟨a, rest, rfl, hd⟩⟩
      rintro ⟨f, _, e, ⟨⟩, hd', _⟩
      obtain ⟨i, hi⟩ := hd f rfl
      cases hi.symm.trans hd'

/-- Settles O54: each of the three steps applies its act, and the ports it drives decide the outcome recorded. -/
theorem runOfATransactionGivesItsResult : Obligations.RunOfATransactionGivesItsResult := by
  intro s op arg flag f len rest hhost
  let afterRequest := ((((s.advance (.respondTo op :: .receive f len :: rest)).driveOp op).driveArg arg).driveFlag
    flag).sampleRequest
  let afterPairing := (afterRequest.advance (.receive f len :: rest)).driveRspOp op
  let afterReply := (afterPairing.advance rest).presentRx f len
  have hrequest : step s = .next afterRequest := step_of_host_cons hhost
  have hpairing : step afterRequest = .next afterPairing := (step_of_host_cons (s := afterRequest) rfl).trans rfl
  have hreply : step afterPairing = .next afterReply :=
    (step_of_host_cons (s := afterPairing) rfl).trans (applyAct_receive f len _)
  have hrun : core.run 3 s = .next afterReply := by
    rw [run_succ_of_next hrequest, run_succ_of_next hpairing, run_succ_of_next hreply]
    rfl
  refine ⟨afterReply, afterReply.decOutcome, hrun, rfl, ?outcomes, ?result⟩
  case outcomes =>
    have hreq : afterRequest.reqOutcome = some (request op arg flag) := State.driven_reqOutcome _ rfl rfl rfl
    have hparse : afterReply.parseOutcome = some (parse f len) := State.driven_parseOutcome _ rfl rfl
    have hres : afterReply.resOutcome = some (response op f len) := State.driven_resOutcome _ rfl rfl rfl
    rw [← hreq, ← hparse, ← hres]
    exact List.append_assoc s.outcomes [_] [_]
  case result =>
    rcases hr : request op arg flag with fr | e <;> simp only [transaction, hr]

/-- Settles O59: the act drives the ports of one unit alone, and with the bytes present they decide its outcome. -/
theorem drivingTheExpectationChangesOnlyItsPorts : Obligations.DrivingTheExpectationChangesOnlyItsPorts :=
  ⟨fun en c s => ⟨s.driveExp en c, rfl, rfl, State.driveExp_parseOutcome s en c, State.driveExp_resOutcome s en c,
      fun _ _ hf hl => State.driven_decOutcome _ hf hl rfl rfl⟩,
    fun op s => ⟨s.driveRspOp op, rfl, rfl, State.driveRspOp_parseOutcome s op, State.driveRspOp_decOutcome s op,
      fun _ _ hf hl => State.driven_resOutcome _ hf hl rfl⟩⟩

end Sys2Proof
end

section
/-! SUPPORT. The checksum as a sum of bytes modulo 256: its forms, what it detects and what it cannot see
(40_checksum.md R46, R49, R52, section 3), and the obligations about them. -/

namespace Sys2Proof.Machine

/-! ### Bytes added in 8 bits, wrap-around included (40_checksum.md R46 (d)) -/

/-- CKS negates the sum of its bytes. -/
theorem cks_eq_neg_sum (b : Fin 7 → Byte) : cks (b 0) (b 1) (b 2) (b 3) (b 4) (b 5) (b 6) = -∑ i, b i := by
  rw [cks_eq_neg, Fin.sum_univ_seven]

/-- VERIFY8 accepts the eight bytes that sum to zero. -/
theorem verify8_iff_sum_eq_zero (v : Fin 8 → Byte) :
    verify8 (v 0) (v 1) (v 2) (v 3) (v 4) (v 5) (v 6) (v 7) = true ↔ ∑ i, v i = 0 := by
  rw [verify8, beq_iff_eq, cks_eq_neg, eq_neg_iff_add_eq_zero, Fin.sum_univ_eight, add_comm]

/-- Two updates of one byte give one sum only if they agree. -/
theorem eq_of_sum_update_eq {v : Fin 8 → Byte} {i : Fin 8} {x : Byte}
    (h : ∑ j, Function.update v i x j = ∑ j, v j) : x = v i := by
  rw [Finset.sum_update_of_mem (Finset.mem_univ i), ← Finset.add_sum_erase _ _ (Finset.mem_univ i),
    Finset.sdiff_singleton_eq_erase] at h
  exact add_right_cancel h

/-- A frame's validity reads the sum of its covered bytes and byte 8. -/
theorem validChecksum_congr {f g : Frame}
    (hsum : f.b1 + f.b2 + f.b3 + f.b4 + f.b5 + f.b6 + f.b7 = g.b1 + g.b2 + g.b3 + g.b4 + g.b5 + g.b6 + g.b7)
    (h8 : f.b8 = g.b8) : validChecksum f = validChecksum g := by
  simp only [validChecksum, verify8, cks_eq_neg, hsum, h8]

end Sys2Proof.Machine

namespace Sys2Proof

open Machine

/-- Settles O2: CKS is the remainder of 256 minus the sum, the negation of the sum, and its complement plus one. -/
theorem checksumHasFourEqualForms : Obligations.ChecksumHasFourEqualForms := by
  intro b1 b2 b3 b4 b5 b6 b7 sum
  have hnat : (cks b1 b2 b3 b4 b5 b6 b7).toNat = (256 - sum % 256) % 256 := cks_toNat b1 b2 b3 b4 b5 b6 b7
  have hsum : BitVec.ofNat 8 sum = b1 + b2 + b3 + b4 + b5 + b6 + b7 := ofNat_byteSum b1 b2 b3 b4 b5 b6 b7
  refine ⟨hnat, ?negation, ?complement, ?wrapped⟩
  case negation => rw [BitVec.ofInt_neg, BitVec.ofInt_natCast, hsum, cks_eq_neg]
  case complement =>
    rw [hnat, BitVec.toNat_not, BitVec.toNat_ofNat]
    omega
  case wrapped => exact (cks_eq_neg ..).trans (BitVec.neg_eq_not_add _)

/-- Settles O4: CKS negates a sum, and a sum does not depend on the order of its terms. -/
theorem checksumIgnoresTheOrderOfItsBytes : Obligations.ChecksumIgnoresTheOrderOfItsBytes := by
  intro b p
  calc cks (b (p 0)) (b (p 1)) (b (p 2)) (b (p 3)) (b (p 4)) (b (p 5)) (b (p 6))
    _ = -∑ i, b (p i) := cks_eq_neg_sum (b ∘ p)
    _ = -∑ i, b i := by rw [Equiv.sum_comp p b]
    _ = cks (b 0) (b 1) (b 2) (b 3) (b 4) (b 5) (b 6) := (cks_eq_neg_sum b).symm

/-- Settles O5: if both sums were zero, the changed byte would be the old one. -/
theorem anySingleByteChangeInvalidatesTheChecksum : Obligations.AnySingleByteChangeInvalidatesTheChecksum := by
  intro v i x hx hv w
  rw [Bool.eq_false_iff, ne_eq, verify8_iff_sum_eq_zero]
  rw [verify8_iff_sum_eq_zero] at hv
  exact fun hw => hx (eq_of_sum_update_eq (hw.trans hv.symm))

/-- Settles O6: VERIFY8 in its sum form, which CKS meets. -/
theorem verifyAcceptsExactlyZeroSums : Obligations.VerifyAcceptsExactlyZeroSums :=
  fun b1 b2 b3 b4 b5 b6 b7 b8 => ⟨verify8_iff b1 b2 b3 b4 b5 b6 b7 b8, beq_self_eq_true _⟩

/-- Settles O7: each change leaves the sum of the covered bytes and byte 8 as they are. -/
theorem checksumBlindSpots : Obligations.ChecksumBlindSpots := by
  intro f x
  refine ⟨rfl, validChecksum_congr ?swap rfl, validChecksum_congr ?cancel rfl⟩
  case swap => simp only [add_assoc, add_left_comm]
  case cancel =>
    dsimp only
    abel

end Sys2Proof
end

section
/-! SUPPORT. The command rows: the frame or the refusal each records, what a frame of the request half says of its
operands, and what every row leaves unchanged (41_encoder.md R53 to R55, 43_commands.md R78 to R89, 10_state.md R12),
and the obligations about them. -/

namespace Sys2Proof.Machine

variable {op : Byte} {arg : Half} {flag : Bool} {f : Frame}

/-! ### The rows with operands of their own -/

/-- CAL_SPAN drives its code and its target and records REQUEST of them, with `cmd_flag` unread (43_commands.md R82). -/
theorem exec_calSpan (v : Half) (k : Byte) (s : State) :
    ∃ t, exec (.calSpan v k) s = .next t ∧ t.reqWires = reqWiresOf (request 0x88 v false) ∧
      t = { s with cmdOp := some 0x88, cmdArg := some v,
                   outcomes := s.outcomes ++ [.request (some (request 0x88 v false))] } :=
  ⟨_, rfl, rfl, rfl⟩

/-- CMD_RAW drives ENC with all four of its lanes (log entry 8) and records BUILD of them. -/
theorem exec_cmdRaw (c p0 p1 p2 p3 k : Byte) (s : State) :
    exec (.cmdRaw c p0 p1 p2 p3 k) s =
      .next ((s.driveEnc c 4 ⟨p0, p1, p2, p3⟩).record (.built (some (build c 4 ⟨p0, p1, p2, p3⟩)))) := rfl

/-! ### BUILD byte by byte (41_encoder.md R53, R55) -/

theorem build_four (c p0 p1 p2 p3 : Byte) :
    build c 4 ⟨p0, p1, p2, p3⟩ = ⟨0xFF, 0x01, c, p0, p1, p2, p3, 0x00, -(0x01 + c + p0 + p1 + p2 + p3)⟩ := by
  have hk : cks 0x01 c p0 p1 p2 p3 0 = -(0x01 + c + p0 + p1 + p2 + p3) :=
    (cks_eq_neg ..).trans (congrArg _ (add_zero _))
  rw [← hk]
  rfl

/-- A frame shows BUILD's code and padded payload and nothing else of its inputs (41_encoder.md R55, R59). -/
theorem build_eq_build_iff (c c' : Byte) (n n' : BitVec 3) (p p' : Payload) :
    build c n p = build c' n' p' ↔ c = c' ∧ padded n p = padded n' p' := by
  constructor
  · intro h
    exact ⟨congrArg Frame.b2 h, Payload.ext (congrArg Frame.b3 h) (congrArg Frame.b4 h) (congrArg Frame.b5 h)
      (congrArg Frame.b6 h)⟩
  · rintro ⟨rfl, hp⟩
    rw [build, hp, build]

/-! ### What a frame of the request half says of its operands (43_commands.md R89) -/

theorem b2_of_request_ok (h : request op arg flag = .ok f) : f.b2 = op := by
  obtain ⟨_, n, p, _, rfl⟩ := exists_build_of_request_ok h
  rfl

/-- Under a code that reads `cmd_arg`, bytes 3 and 4 are the argument. -/
theorem arg_of_request_ok (hop : readsArg op = true) (h : request op arg flag = .ok f) : arg = joinBytes f.b3 f.b4 := by
  have hf : f = build op 2 (halfPayload arg) := by
    rcases request_cases op arg flag with
      ⟨rfl, hr⟩ | ⟨rfl, hr⟩ | ⟨rfl, _, hr⟩ | ⟨_, _, hr⟩ | ⟨rfl, hr⟩ | ⟨rfl, _, hr⟩ | ⟨_, _, hr⟩ | ⟨_, hr⟩ <;>
      cases h.symm.trans hr
    · cases hop
    · cases hop
    · rfl
    · cases hop
    · rfl
  rw [hf]
  exact (joinBytes_hiByte_loByte arg).symm

/-- Under the code that reads `cmd_flag`, byte 3 tells the flag. -/
theorem flag_of_request_ok (hop : readsFlag op = true) (h : request op arg flag = .ok f) :
    flag = (f.b3 == Config.abcOn) := by
  obtain rfl : op = 0x79 := by simpa [readsFlag] using hop
  cases flag with
  | false => rw [← UnitResult.ok.inj ((request_abc_off arg).symm.trans h)]; rfl
  | true => rw [← UnitResult.ok.inj ((request_abc_on arg).symm.trans h)]; rfl

/-- SET_RANGE has two frames and refuses every other argument (43_commands.md R86). -/
theorem request_range_eq (arg : Half) (flag : Bool) :
    request 0x99 arg flag =
      if arg = 2000 then .ok ⟨0xFF, 0x01, 0x99, 0x07, 0xD0, 0, 0, 0, 0x8F⟩
      else if arg = 5000 then .ok ⟨0xFF, 0x01, 0x99, 0x13, 0x88, 0, 0, 0, 0xCB⟩
      else .err .invalidArgument := by
  split_ifs with hlow hhigh
  · subst hlow
    exact request_range_low flag
  · subst hhigh
    exact request_range_high flag
  · exact request_range_of_illegal flag hlow hhigh

/-! ### What a row drives (10_state.md R12) -/

/-- Everything a row does: it presents bytes, or drives ENC, or drives `cmd_op` with the operand its command reads. -/
theorem exec_cases {i : Instr} {s t : State} (h : exec i s = .next t) :
    (i.format = .response ∧ i.row ≠ .cmdRaw ∧ ∃ f, t = s.presentRx f 9) ∨
    (i.format = .command ∧ i.row = .cmdRaw ∧ ∃ c p, t = (s.driveEnc c 4 p).sampleBuilt) ∨
    (i.format = .command ∧ i.row ≠ .cmdRaw ∧ ∃ op arg flag,
      t = ({ s with cmdOp := some op, cmdArg := arg, cmdFlag := flag } : State).sampleRequest ∧
      (i.row ≠ .calSpan → i.row ≠ .setRange2000 → i.row ≠ .setRange5000 → arg = s.cmdArg) ∧
      (i.row ≠ .setAbcOn → i.row ≠ .setAbcOff → flag = s.cmdFlag)) := by
  cases i <;> cases h
  case readCo2 | calZero =>
    exact .inr (.inr ⟨rfl, nofun, _, s.cmdArg, s.cmdFlag, rfl, fun _ _ _ => rfl, fun _ _ => rfl⟩)
  case calSpan v _ =>
    exact .inr (.inr ⟨rfl, nofun, _, some v, s.cmdFlag, rfl, fun h _ _ => absurd rfl h, fun _ _ => rfl⟩)
  case setRange2000 =>
    exact .inr (.inr ⟨rfl, nofun, _, some 2000, s.cmdFlag, rfl, fun _ h _ => absurd rfl h, fun _ _ => rfl⟩)
  case setRange5000 =>
    exact .inr (.inr ⟨rfl, nofun, _, some 5000, s.cmdFlag, rfl, fun _ _ h => absurd rfl h, fun _ _ => rfl⟩)
  case setAbcOn =>
    exact .inr (.inr ⟨rfl, nofun, _, s.cmdArg, some true, rfl, fun _ _ _ => rfl, fun h _ => absurd rfl h⟩)
  case setAbcOff =>
    exact .inr (.inr ⟨rfl, nofun, _, s.cmdArg, some false, rfl, fun _ _ _ => rfl, fun _ h => absurd rfl h⟩)
  case cmdRaw => exact .inr (.inl ⟨rfl, rfl, _, _, rfl⟩)
  case rspReadCo2 | rspAny => exact .inl ⟨rfl, nofun, _, rfl⟩

end Sys2Proof.Machine

namespace Sys2Proof

open Machine

/-- Settles O22: the row drives `cmd_op` alone, and REQUEST of 0x86 is R78's frame. -/
theorem readCo2EmitsItsConstantFrame : Obligations.ReadCo2EmitsItsConstantFrame :=
  ⟨fun _ _ => ⟨_, rfl, rfl, rfl⟩, request_read⟩

/-- Settles O23: the row drives `cmd_op` alone, and REQUEST of 0x87 is R80's frame. -/
theorem calZeroEmitsItsConstantFrame : Obligations.CalZeroEmitsItsConstantFrame :=
  ⟨fun _ _ => ⟨_, rfl, rfl, rfl⟩, request_zero⟩

/-- Settles O24: the row drives `cmd_op` and `cmd_arg`, and REQUEST of 0x88 checks the target. -/
theorem calSpanChecksAndEmitsItsTarget : Obligations.CalSpanChecksAndEmitsItsTarget := by
  refine ⟨?low, ?legal, fun v flag => rfl, ?unsent⟩
  case low =>
    intro v k s hv
    rw [← request_span_of_low false hv]
    obtain ⟨t, ht, hwires, hframe⟩ := exec_calSpan v k s
    exact ⟨t, ht, hwires.trans (refused_of_request_err (request_span_of_low false hv)).1, hframe⟩
  case legal =>
    intro v k s hv hi lo frame
    have hr : request 0x88 v false = .ok frame := by
      rw [request_span_of_legal false hv, hiByte_eq_ofNat, loByte_eq_ofNat]
    obtain ⟨t, ht, hwires, hframe⟩ := exec_calSpan v k s
    rw [hr] at hwires hframe
    exact ⟨t, ht, hwires, hframe⟩
  case unsent => exact fun v flag link hv => sentToLink_of_request_err (request_span_of_low flag hv) link

/-- Settles O25: the row drives `cmd_op` and `cmd_flag`, and REQUEST of 0x79 puts the flag in payload byte 0. -/
theorem setAbcEmitsItsTwoFrames : Obligations.SetAbcEmitsItsTwoFrames :=
  ⟨fun _ _ => ⟨_, rfl, rfl, rfl⟩,
    fun _ _ => ⟨_, rfl, rfl, rfl⟩,
    fun arg => ⟨request_abc_on arg, request_abc_off arg⟩⟩

/-- Settles O26: the rows drive R86's two arguments, and REQUEST of 0x99 refuses every other. -/
theorem setRangeEmitsOnlyItsTwoFrames : Obligations.SetRangeEmitsOnlyItsTwoFrames := by
  refine ⟨fun _ _ => ⟨_, rfl, rfl, rfl⟩,
    fun _ _ => ⟨_, rfl, rfl, rfl⟩, request_range_eq, ?refused, ?unsent⟩
  case refused =>
    intro arg flag s hlow hhigh
    obtain ⟨t, ht, _, hwires⟩ := applyAct_request 0x99 arg flag s
    exact ⟨t, ht, hwires.trans (refused_of_request_err (request_range_of_illegal flag hlow hhigh)).1⟩
  case unsent =>
    exact fun arg flag link hlow hhigh => sentToLink_of_request_err (request_range_of_illegal flag hlow hhigh) link

/-- Settles O28: the row drives ENC with all four lanes, and BUILD appends the negated sum. -/
theorem cmdRawEmitsItsOwnBytes : Obligations.CmdRawEmitsItsOwnBytes := by
  intro cmd p0 p1 p2 p3 k s frame
  have hf : build cmd 4 ⟨p0, p1, p2, p3⟩ = frame := build_four cmd p0 p1 p2 p3
  rw [exec_cmdRaw, ← hf]
  exact ⟨_, rfl, State.txFrame_record_driveEnc s cmd 4 _ _, rfl⟩

/-- Settles O29: the request half builds with its own code and at most two lanes, and the frame shows the operand. -/
theorem requestFramesAreGoodAndDistinct : Obligations.RequestFramesAreGoodAndDistinct := by
  refine ⟨?good, ?distinct⟩
  case good =>
    intro op arg flag f h
    obtain ⟨_, n, p, hn, rfl⟩ := exists_build_of_request_ok h
    obtain ⟨h5, h6⟩ := padded_p2_p3_of_le_two p hn
    exact ⟨rfl, rfl, rfl, h5, h6, rfl, build_validChecksum op n p⟩
  case distinct =>
    intro op op' arg arg' flag flag' f h h'
    obtain rfl : op = op' := (b2_of_request_ok h).symm.trans (b2_of_request_ok h')
    exact ⟨rfl, fun hop => (arg_of_request_ok hop h).trans (arg_of_request_ok hop h').symm,
      fun hop => (flag_of_request_ok hop h).trans (flag_of_request_ok hop h').symm⟩

/-- Settles O11: the frame shows the code and the padded payload, and a padded lane is an explicit zero. -/
theorem buildIsInjectiveUpToPadding : Obligations.BuildIsInjectiveUpToPadding := by
  refine ⟨build_eq_build_iff, ?_⟩
  intro c x y z x' y' z' w'
  exact (build_eq_build_iff ..).mpr ⟨rfl, rfl⟩

/-- Settles O36: a row drives the ports of its own unit, and every other port and outcome stays. -/
theorem instructionFrames : Obligations.InstructionFrames := by
  intro i s t h
  rcases exec_cases h with ⟨hf, hr, f, rfl⟩ | ⟨hf, hr, c, p, rfl⟩ | ⟨hf, hr, op, arg, flag, rfl, harg, hflag⟩
  · have hcommand : i.format ≠ .command := by rw [hf]; nofun
    exact ⟨rfl, rfl, rfl, rfl, rfl, rfl, rfl, fun _ => ⟨rfl, rfl, rfl, rfl, rfl, rfl, rfl, rfl⟩,
      fun h => absurd h hcommand, fun _ => ⟨rfl, rfl, rfl, rfl⟩, fun _ => ⟨rfl, rfl, rfl, rfl⟩, fun _ _ _ => rfl,
      fun _ _ => rfl, _, rfl⟩
  · have hresponse : i.format ≠ .response := by rw [hf]; nofun
    exact ⟨rfl, rfl, rfl, rfl, rfl, rfl, rfl, fun h => absurd h hresponse, fun _ => ⟨rfl, rfl, rfl, rfl, rfl⟩,
      fun _ => ⟨rfl, rfl, rfl, rfl⟩, fun h => absurd hr h, fun _ _ _ => rfl, fun _ _ => rfl, _, rfl⟩
  · have hresponse : i.format ≠ .response := by rw [hf]; nofun
    exact ⟨rfl, rfl, rfl, rfl, rfl, rfl, rfl, fun h => absurd h hresponse, fun _ => ⟨rfl, rfl, rfl, rfl, rfl⟩,
      fun h => absurd h hr, fun _ => ⟨rfl, rfl, rfl, rfl⟩, harg, hflag, _, rfl⟩

end Sys2Proof
end

section
/-! SUPPORT. Received bytes of format R: what a response row leaves on the ports, frames of ENC looped back or laid out
as responses, and replies judged under the wrong command (42_decoder.md R61 to R73, 43_commands.md R77), and the
obligations about them. -/

namespace Sys2Proof.Machine

variable {s : State} {f : Frame} {len : BitVec 4} {p : Parsed}

/-! ### A response row on the ports (30_encoding.md R42, 42_decoder.md section 1) -/

/-- A format R frame has nine bytes and its start byte, so its checksum alone decides PARSE. -/
theorem parse_responseFrame (c dh dl r4 r5 r6 r7 k : Byte) :
    parse (responseFrame c dh dl r4 r5 r6 r7 k) 9 =
      if k = cks c dh dl r4 r5 r6 r7 then .ok ⟨c, dh, dl⟩ else .err .checksumMismatch := by
  split_ifs with hk
  · exact parse_of_valid (le_refl 9) rfl hk
  · exact parse_of_badChecksum (le_refl 9) rfl hk

theorem dec_responseFrame (c dh dl r4 r5 r6 r7 k : Byte) (en : Bool) (e : Byte) :
    dec (responseFrame c dh dl r4 r5 r6 r7 k) 9 en e =
      if k ≠ cks c dh dl r4 r5 r6 r7 then .err .checksumMismatch
      else if en = true ∧ c ≠ e then .err .unexpectedCommand
      else .ok ⟨c, dh, dl, dh ++ dl⟩ :=
  dec_eq_tests (responseFrame c dh dl r4 r5 r6 r7 k) 9 en e

/-- DEC is unspecified while `exp_en` is not driven (70_reset_and_hazards.md R111). -/
theorem State.decOutcome_of_exp_undriven (h : s.expEn = none) : s.decOutcome = none := by
  rw [State.decOutcome_eq_none_iff, State.echoInputs, h]
  exact .inr rfl

/-! ### A frame that PARSE accepts, under a command that checks the echo and under one that does not -/

theorem response_read_of_echo_mismatch {c dh dl : Byte} (hp : parse f len = .ok ⟨c, dh, dl⟩) (hc : c ≠ 0x86) :
    response 0x86 f len = .err .unexpectedCommand :=
  calc response 0x86 f len
    _ = ppmReply (dec f len true 0x86) := rfl
    _ = .err .unexpectedCommand := by rw [dec_of_echo_mismatch hp rfl hc, ppmReply, raise]

theorem response_zero_of_parse_ok (hp : parse f len = .ok p) : response 0x87 f len = .ok .ack :=
  calc response 0x87 f len
    _ = ackReply (dec f len false 0) := rfl
    _ = .ok .ack := by rw [dec_of_echo_pass hp (by simp), ackReply]

/-! ### Frames that are valid because CKS made their last byte -/

/-- A format R frame with its own checksum is parsed to its fields (42_decoder.md R66). -/
theorem parse_responseFrame_cks (c dh dl r4 r5 r6 r7 : Byte) :
    parse (responseFrame c dh dl r4 r5 r6 r7 (cks c dh dl r4 r5 r6 r7)) 9 = .ok ⟨c, dh, dl⟩ :=
  (parse_responseFrame ..).trans (if_pos rfl)

/-- PARSE accepts every frame ENC emits and reads its sensor number as a code (42_decoder.md R73). -/
theorem parse_build (cmd : Byte) (plen : BitVec 3) (q : Payload) (hl : 9 ≤ len.toNat) :
    parse (build cmd plen q) len = .ok ⟨0x01, cmd, (padded plen q).p0⟩ :=
  parse_of_valid hl rfl (build_b8 cmd plen q)

theorem dec_ne_invalidArgument (f : Frame) (len : BitVec 4) (en : Bool) (c : Byte) :
    dec f len en c ≠ .err .invalidArgument := by
  rw [dec_eq_tests]
  split_ifs <;> nofun

end Sys2Proof.Machine

namespace Sys2Proof

open Machine

/-- Settles O15: no test of DEC is InvalidArgument's, and the byte PARSE accepts is CKS of the seven. -/
theorem exactlyOneChecksumByteIsAccepted : Obligations.ExactlyOneChecksumByteIsAccepted := by
  refine ⟨dec_ne_invalidArgument, fun b1 b2 b3 b4 b5 b6 b7 => ⟨cks b1 b2 b3 b4 b5 b6 b7, fun k => ?_⟩⟩
  have hp : parse ⟨0xFF, b1, b2, b3, b4, b5, b6, b7, k⟩ 9 =
      if k = cks b1 b2 b3 b4 b5 b6 b7 then .ok ⟨b1, b2, b3⟩ else .err .checksumMismatch :=
    parse_responseFrame b1 b2 b3 b4 b5 b6 b7 k
  rw [hp]
  by_cases hk : k = cks b1 b2 b3 b4 b5 b6 b7 <;> simp [hk]

/-- Settles O32: RSP_READ_CO2 is RSP_ANY of 0x86; each presents its frame, and DEC reads the echo check's ports. -/
theorem responseRowsParseTheirBytes : Obligations.ResponseRowsParseTheirBytes := by
  refine (and_iff_right_of_imp fun hany => hany 0x86).mpr ?_
  intro c dh dl r4 r5 r6 r7 k s
  let frame := responseFrame c dh dl r4 r5 r6 r7 k
  refine ⟨s.presentRx frame 9, rfl, rfl, ?parse, ?undriven, ?echoOff, ?echoOn⟩
  case parse => exact (State.driven_parseOutcome _ rfl rfl).trans (congrArg some (parse_responseFrame ..))
  case undriven => exact fun he => State.decOutcome_of_exp_undriven he
  case echoOff =>
    intro he
    rw [State.decOutcome_of_exp_off (s.presentRx frame 9) rfl rfl he 0, dec_responseFrame]
    simp [ite_not]
  case echoOn =>
    intro e hen hcmd
    rw [State.driven_decOutcome (s.presentRx frame 9) rfl rfl hen hcmd, dec_responseFrame]
    simp

/-- Settles O33: PARSE accepts both replies, and of the two commands READ_CO2 alone checks the echo. -/
theorem wrongPairingGivesTheWrongVerdict : Obligations.WrongPairingGivesTheWrongVerdict := by
  intro dh dl r4 r5 r6 r7
  have hack : response 0x87 (responseFrame 0x86 dh dl r4 r5 r6 r7 (cks 0x86 dh dl r4 r5 r6 r7)) 9 = .ok .ack :=
    response_zero_of_parse_ok (parse_responseFrame_cks ..)
  exact ⟨congrArg resWiresOf hack, response_read_of_echo_mismatch (parse_responseFrame_cks ..) (by decide)⟩

/-- Settles O34: PARSE reads the sensor number 0x01 as the code, which the echo check for 0x86 refuses. -/
theorem loopedBackCommandsPassParse : Obligations.LoopedBackCommandsPassParse := by
  intro cmd plen p len hl
  have hp := parse_build cmd plen p hl
  exact ⟨hp, response_read_of_echo_mismatch hp (by decide), response_zero_of_parse_ok hp⟩

/-- Settles O35: the helper lays the code and the padded payload out where PARSE reads its fields. -/
theorem echoedCommandRoundTrip : Obligations.EchoedCommandRoundTrip :=
  fun _ _ _ => parse_responseFrame_cks ..

end Sys2Proof
end

section
/-! SUPPORT. Which inputs each unit needs: an outcome is specified exactly while they are driven, and what is answered
while an ignored one is not (70_reset_and_hazards.md R111, 10_state.md R18, R19), and the obligations about it. -/

namespace Sys2Proof.Machine

variable {s : State} {op : Byte}

/-! ### The commands that read an operand, and the five codes (10_state.md R19, 30_encoding.md R33) -/

theorem readsArg_iff : readsArg op = true ↔ op = 0x88 ∨ op = 0x99 := by
  simp only [readsArg, Bool.or_eq_true, beq_iff_eq]

theorem readsFlag_iff : readsFlag op = true ↔ op = 0x79 := beq_iff_eq

theorem isCommandCode_iff : isCommandCode op = true ↔ op = 0x86 ∨ op = 0x87 ∨ op = 0x88 ∨ op = 0x79 ∨ op = 0x99 := by
  simp only [isCommandCode, Bool.or_eq_true, beq_iff_eq, or_assoc]

/-- No command reads both operands. -/
theorem readsFlag_of_readsArg (h : readsArg op = true) : readsFlag op = false := by
  rcases readsArg_iff.mp h with rfl | rfl <;> rfl

/-! ### When an outcome is specified (70_reset_and_hazards.md R111) -/

theorem State.cksOutcome_ne_none_iff (s : State) : s.cksOutcome ≠ none ↔ s.cksB ≠ none := by
  rw [State.cksOutcome, ne_eq, Option.map_eq_none_iff]

theorem State.encOutcome_ne_none_iff (s : State) :
    s.encOutcome ≠ none ↔ s.encCmd ≠ none ∧ ∃ plen, s.encPlen = some plen ∧ (plen ≠ 0 → s.encP ≠ none) := by
  unfold State.encOutcome
  rcases s.encCmd with _ | cmd
  · simp
  rcases s.encPlen with _ | plen
  · simp
  by_cases hn : plen = 0#3 <;> simp [hn]

/-- PARSE needs the length, and the lanes where it reads them (42_decoder.md R62). -/
theorem State.parseOutcome_ne_none_iff (s : State) :
    s.parseOutcome ≠ none ↔ ∃ len, s.rxLen = some len ∧ (9 ≤ len.toNat → s.rxFrame ≠ none) := by
  unfold State.parseOutcome
  rcases s.rxLen with _ | len
  · simp
  by_cases hl : 9 ≤ len.toNat
  · simp [tooShort_of_nine_le hl, hl]
  · simp [tooShort, Nat.lt_of_not_le hl, hl]

theorem State.decOutcome_ne_none_iff (s : State) :
    s.decOutcome ≠ none ↔ s.parseOutcome ≠ none ∧ ∃ en, s.expEn = some en ∧ (en = true → s.expCmd ≠ none) := by
  rw [ne_eq, State.decOutcome_eq_none_iff, not_or, ← s.echoInputs_ne_none_iff]

theorem State.reqOutcome_ne_none_iff (s : State) :
    s.reqOutcome ≠ none ↔ ∃ op, s.cmdOp = some op ∧ (readsArg op = true → s.cmdArg ≠ none) ∧
      (readsFlag op = true → s.cmdFlag ≠ none) := by
  unfold State.reqOutcome
  rcases s.cmdOp with _ | op
  · simp
  by_cases ha : readsArg op = true
  · simp [ha, readsFlag_of_readsArg ha]
  · by_cases hf : readsFlag op = true <;> simp [ha, hf]

/-- The response half needs what PARSE needs, but nothing of it under an unknown code (43_commands.md R88). -/
theorem State.resOutcome_ne_none_iff (s : State) :
    s.resOutcome ≠ none ↔ ∃ op, s.rspOp = some op ∧ (isCommandCode op = true → s.parseOutcome ≠ none) := by
  unfold State.resOutcome State.parseOutcome
  rcases s.rspOp with _ | op
  · simp
  by_cases hop : isCommandCode op = true
  · rcases s.rxLen with _ | len
    · simp [hop]
    · by_cases hl : tooShort len = true <;> simp [hop, hl]
  · simp [hop]

/-! ### The wires of an unspecified outcome are free values (log entry 4) -/

theorem State.cksOut_of_unspecified (h : s.cksOutcome = none) : s.cksOut = Config.floatingCksOut s.freeIdx := by
  rw [State.cksOut, h, Option.getD_none]

theorem State.txFrame_of_unspecified (h : s.encOutcome = none) : s.txFrame = Config.floatingTxFrame s.freeIdx := by
  rw [State.txFrame, h, Option.getD_none]

theorem State.decWires_of_unspecified (h : s.decOutcome = none) :
    s.decWires =
      ⟨Config.floatingDecOk s.freeIdx, Config.floatingDecErr s.freeIdx, Config.floatingDecCmd s.freeIdx,
        Config.floatingDecDh s.freeIdx, Config.floatingDecDl s.freeIdx, Config.floatingDecPpm s.freeIdx⟩ := by
  rw [State.decWires, h]

theorem State.reqWires_of_unspecified (h : s.reqOutcome = none) :
    s.reqWires =
      ⟨Config.floatingReqOk s.freeIdx, Config.floatingReqErr s.freeIdx, Config.floatingCmdTxFrame s.freeIdx⟩ := by
  rw [State.reqWires, h]

theorem State.resWires_of_unspecified (h : s.resOutcome = none) :
    s.resWires =
      ⟨Config.floatingResOk s.freeIdx, Config.floatingResErr s.freeIdx, Config.floatingResPpm s.freeIdx⟩ := by
  rw [State.resWires, h]

/-! ### What is answered while an ignored input is not driven (10_state.md R19, log entry 2) -/

theorem State.parseOutcome_of_short {len : BitVec 4} (hl : s.rxLen = some len) (hshort : len.toNat < 9) :
    s.parseOutcome = some (.err .badLength) := by
  have ht : tooShort len = true := decide_eq_true hshort
  simp only [State.parseOutcome, hl, ht, if_true, raise]

/-- DEC passes PARSE's error on where the echo check's inputs are driven. -/
theorem State.decOutcome_of_parse_err {e : Err} (hp : s.parseOutcome = some (.err e)) (he : s.echoInputs ≠ none) :
    s.decOutcome = some (.err e) := by
  obtain ⟨x, hx⟩ := Option.ne_none_iff_exists'.mp he
  simp only [State.decOutcome, hp, hx, raise]

theorem State.resOutcome_of_short {len : BitVec 4} (hl : s.rxLen = some len) (hshort : len.toNat < 9)
    (hrsp : s.rspOp = some op) (hop : isCommandCode op = true) : s.resOutcome = some (.err .badLength) := by
  have ht : tooShort len = true := decide_eq_true hshort
  simp only [State.resOutcome, hl, hrsp, hop, ht, if_true, raise]

theorem State.resOutcome_of_unknown (hrsp : s.rspOp = some op) (hop : isCommandCode op = false) :
    s.resOutcome = some (.err .invalidArgument) := by
  simp only [State.resOutcome, hrsp, hop, Bool.false_eq_true, if_false, raise]

/-- A command that reads neither operand is answered as for any operands (43_commands.md R78, R80). -/
theorem State.reqOutcome_of_reads_none (hcmd : s.cmdOp = some op) (hspan : op ≠ 0x88) (hrange : op ≠ 0x99)
    (habc : op ≠ 0x79) (arg : Half) (flag : Bool) : s.reqOutcome = some (request op arg flag) := by
  have ha : ¬readsArg op = true := fun h => (readsArg_iff.mp h).elim hspan hrange
  have hf : ¬readsFlag op = true := fun h => habc (readsFlag_iff.mp h)
  have hr : request op 0 false = request op arg flag := by
    simp only [request, Config.cmdSpan, Config.cmdAbc, Config.cmdRange, hspan, hrange, habc, if_false]
  simp only [State.reqOutcome, hcmd, if_neg ha, if_neg hf, hr]

/-- With `enc_plen` 0 the payload is padded away (41_encoder.md R55). -/
theorem State.encOutcome_of_plen_zero {cmd : Byte} (hcmd : s.encCmd = some cmd) (hlen : s.encPlen = some 0)
    (p : Payload) : s.encOutcome = some (build cmd 0 p) := by
  have hb : build cmd 0 noPayload = build cmd 0 p := build_congr cmd rfl
  simp only [State.encOutcome, hcmd, hlen, if_true, hb]

end Sys2Proof.Machine

namespace Sys2Proof

open Machine

/-- Settles O57: each unit's outcome is specified exactly while what it reads is driven; its wires float otherwise. -/
theorem outputsAreSpecifiedExactlyWhileTheirInputsAreDriven :
    Obligations.OutputsAreSpecifiedExactlyWhileTheirInputsAreDriven := by
  intro s rxDriven
  have hparse : s.parseOutcome ≠ none ↔ rxDriven := s.parseOutcome_ne_none_iff
  refine ⟨s.cksOutcome_ne_none_iff, s.encOutcome_ne_none_iff, ?dec, ?req, ?res, State.cksOut_of_unspecified,
    State.txFrame_of_unspecified, State.decWires_of_unspecified, State.reqWires_of_unspecified,
    State.resWires_of_unspecified⟩
  case dec => rw [s.decOutcome_ne_none_iff, hparse]
  case req => simp only [s.reqOutcome_ne_none_iff, readsArg_iff, readsFlag_iff]
  case res => simp only [s.resOutcome_ne_none_iff, isCommandCode_iff, hparse]

/-- Settles O58: each unit answers from the inputs it reads, and what it does not read makes no difference. -/
theorem ignoredInputsNeedNotBeDriven : Obligations.IgnoredInputsNeedNotBeDriven := by
  intro s
  refine ⟨?short, fun _ _ hf hl he c => s.decOutcome_of_exp_off hf hl he c, ?shortReply, ?unknown,
    fun _ hcmd hspan hrange habc => State.reqOutcome_of_reads_none hcmd hspan hrange habc,
    fun _ hcmd hlen => State.encOutcome_of_plen_zero hcmd hlen⟩
  case short =>
    intro len hl hshort hexp
    have hecho : s.echoInputs ≠ none := s.echoInputs_ne_none_iff.mpr <| by
      rcases hexp with he | ⟨he, hcmd⟩
      · exact ⟨false, he, nofun⟩
      · exact ⟨true, he, fun _ => hcmd⟩
    have hdec := State.decOutcome_of_parse_err (State.parseOutcome_of_short hl hshort) hecho
    exact ⟨hdec, State.decWires_of_outcome hdec⟩
  case shortReply =>
    intro len op hl hshort hrsp hop
    have hres := State.resOutcome_of_short hl hshort hrsp (isCommandCode_iff.mpr hop)
    exact ⟨hres, State.resWires_of_outcome hres⟩
  case unknown =>
    intro op hrsp hread hzero hspan habc hrange
    have hres := State.resOutcome_of_unknown hrsp (isCommandCode_eq_false hread hzero hspan habc hrange)
    exact ⟨hres, State.resWires_of_outcome hres⟩

end Sys2Proof
end

section
/-! SUPPORT. Logs of a host that keeps its duties: what a log leaves outstanding and where its last request comes from
(70_reset_and_hazards.md R113 to R119, log entry 16), and the obligation about them. -/

namespace Sys2Proof.Safety

open Machine

/-! ### The session a log leads to -/

/-- The session after a log. -/
def Session.afterLog (k : Session) (log : List HostEvent) : Session := log.foldl Session.after k

/-- The transactions that await their reply: one or none. -/
def Session.pending (k : Session) : Nat := if k.outstanding = none then 0 else 1

theorem Session.pending_of_none {k : Session} (h : k.outstanding = none) : k.pending = 0 := if_pos h

theorem Session.pending_of_ne_none {k : Session} (h : k.outstanding ≠ none) : k.pending = 1 := if_neg h

theorem Session.pending_le_one (k : Session) : k.pending ≤ 1 := by
  unfold Session.pending
  split_ifs <;> decide

theorem dutiful_append (k : Session) (early late : List HostEvent) :
    dutiful k (early ++ late) = (dutiful k early && dutiful (k.afterLog early) late) := by
  induction early generalizing k with
  | nil => rfl
  | cons e rest ih =>
    have hlog : k.afterLog (e :: rest) = (k.after e).afterLog rest := rfl
    rw [List.cons_append, dutiful, dutiful, ih, Bool.and_assoc, hlog]

/-- A write is allowed where nothing is outstanding and the last request had `req_ok` 1 (R113, R119). -/
theorem Session.allows_send_iff (k : Session) :
    k.allows .send = true ↔ k.outstanding = none ∧ ∃ op, k.applied = some (op, true) := by
  simp only [Session.allows, Bool.and_eq_true, beq_iff_eq]
  rcases k.applied with _ | ⟨op, _ | _⟩ <;> simp

/-! ### Writes and resolved replies (R113) -/

/-- Resolving what is outstanding moves one from the pending to the resolved. -/
theorem resolve_balance {k : Session} {m n p : Nat} (hout : k.outstanding ≠ none) (h : m + 0 = n + p) :
    m + k.pending = n + 1 + p := by
  rw [Session.pending_of_ne_none hout]
  omega

/-- Along a dutiful log, what is written and what was pending balance what is resolved and what is pending. -/
theorem sends_add_pending {k : Session} {log : List HostEvent} (h : dutiful k log = true) :
    sends log + k.pending = resolved log + (k.afterLog log).pending := by
  induction log generalizing k with
  | nil => rfl
  | cons e rest ih =>
    obtain ⟨hallows, hrest⟩ := Bool.and_eq_true_iff.mp h
    have hbalance : sends rest + (k.after e).pending = resolved rest + (k.afterLog (e :: rest)).pending := ih hrest
    cases e with
    | request op arg flag => exact hbalance
    | rawPort => exact hbalance
    | send =>
      obtain ⟨hidle, op, happlied⟩ := k.allows_send_iff.mp hallows
      have hsent : (k.after .send).pending = 1 := Session.pending_of_ne_none (by simp [Session.after, happlied])
      rw [hsent] at hbalance
      rw [Session.pending_of_none hidle]
      exact hbalance
    | reply op f len =>
      have hout : k.outstanding = some op := eq_of_beq hallows
      exact resolve_balance (by rw [hout]; nofun) hbalance
    | giveUp => exact resolve_balance (bne_iff_ne.mp hallows) hbalance

/-! ### Where the last request comes from (R119) -/

/-- What a session holds as applied after a log was applied before it, or the log holds the request. -/
theorem applied_afterLog {k : Session} {log : List HostEvent} {op : Byte} {ok : Bool}
    (h : (k.afterLog log).applied = some (op, ok)) :
    k.applied = some (op, ok) ∨ ∃ arg flag, HostEvent.request op arg flag ∈ log ∧ okBit (request op arg flag) = ok := by
  induction log generalizing k with
  | nil => exact .inl h
  | cons e rest ih =>
    rcases ih h with hk | ⟨arg, flag, hmem, hok⟩
    · cases e with
      | request op' arg flag =>
        cases hk
        exact .inr ⟨arg, flag, List.mem_cons_self, rfl⟩
      | send | reply | giveUp | rawPort => exact .inl hk
    · exact .inr ⟨arg, flag, List.mem_cons_of_mem e hmem, hok⟩

end Sys2Proof.Safety

namespace Sys2Proof

open Machine Safety

/-- Settles O55: a log's writes exceed its resolved replies by what is pending, at most one, and a write is allowed only
after a request with `req_ok` 1. -/
theorem dutifulHostsHaveOneTransactionOutstanding : Obligations.DutifulHostsHaveOneTransactionOutstanding := by
  refine ⟨fun early late h => ?balance, fun early late h => ?source⟩
  case balance =>
    rw [dutiful_append, Bool.and_eq_true] at h
    have hbalance : sends early + 0 = resolved early + (Session.idle.afterLog early).pending := sends_add_pending h.1
    have hpending := (Session.idle.afterLog early).pending_le_one
    omega
  case source =>
    rw [dutiful_append, Bool.and_eq_true, dutiful, Bool.and_eq_true] at h
    obtain ⟨_, hallows, _⟩ := h
    obtain ⟨_, op, happlied⟩ := (Session.allows_send_iff _).mp hallows
    rcases applied_afterLog happlied with hidle | ⟨arg, flag, hmem, hok⟩
    · cases hidle
    · rcases hr : request op arg flag with f | e
      · exact ⟨op, arg, flag, f, hmem, hr, goodRequestFrame_of_request_ok hr⟩
      · rw [hr] at hok
        cases hok

end Sys2Proof
end
